-- ==== Sys2Proof/Word.lean ====
section
/-! DEFINITION. The word types of the part: the store word of 32 bits and its bytes (manual section 1.7). -/

namespace Sys2Proof

/-- One byte of the store, of a story or of a frame. -/
abbrev Byte := BitVec 8

/-- One store word (section 1.7: "The store word is 32 bits"). -/
abbrev Word := BitVec 32

end Sys2Proof
end

