-- ==== Sys2Proof/Config.lean ====
section
/-! DEFINITION. The fixed capacities of the part (Table 1-5) and the ranges and defaults of its settings. The manual leaves no value of an
implementation open, so there is no opaque constant here. -/

namespace Sys2Proof.Config

/-- Table 1-5: blocks of 1,024 bytes, copy lines of 64 bytes. -/
def blockBytes : Nat := 1024
def lineBytes : Nat := 64
def linesPerBlock : Nat := 16
def maxChain : Nat := 64
def storyCount : Nat := 2047
def positionCount : Nat := 128
def deskCount : Nat := 16
def handSize : Nat := 8
def bracketCount : Nat := 8
def fifoSize : Nat := 512
def pageCount : Nat := 128
def placementCount : Nat := 12
def queueSize : Nat := 32
def secondsPerDay : Nat := 86400

/-- Table 1-8: ranges of the structural settings. -/
def mib : Nat := 1048576
def copyFirstMax : Nat := 16383
def copyCountMin : Nat := 64
def copyCountMax : Nat := 16384
def slipBaseMax : Nat := 16376
def slipAreaBytes : Nat := 8192

/-- R11: places of the scrub queue. -/
def scrubSize : Nat := 4

/-- R83: the line count saturates here. -/
def lineCountMax : Nat := 4095

/-- R124: the ROWBAD count that makes a drop FAULTY. -/
def rowbadLimit : Nat := 32

/-- R121: ticks of the answer window; R167: ticks of a set-link frame; R169: ticks of an OFFER's wait and the number of OFFERs. -/
def windowTicks : Nat := 20
def frameTicks : Nat := 100
def offerTicks : Nat := 1000
def offerLimit : Nat := 5

/-- R172: the spoiled count that ends an attempt. -/
def spoiledLimit : Nat := 8

/-- R8: the 1 ms tick, counted from the opening, that closes a locked pair. -/
def pairTicks : Nat := 2

/-- R135: characters of the header store. -/
def headerSize : Nat := 200

/-- The saturation of the 16-bit counters and of the 8-bit ones. -/
def count16 : Nat := 65535
def count8 : Nat := 255

end Sys2Proof.Config
end

