-- ==== Sys2Proof/Syntax.lean ====
section
/-! DEFINITION. The commands of the part: one constructor for each row of spec/opcode_table.json, in the table's order. The table gives the
rows no bits and no fields; operands follow the rule each row cites (log 16). Slip rows carry none: their operands are the captured
words of the slip in service (R40). Notice, report and grant rows carry none: the oldest outstanding one is taken (log 9). -/

namespace Sys2Proof

/-- The settings of a wire line that shape a character frame (R130). -/
structure LineFormat where
  rate     : Nat
  dataBits : Nat
  parity   : Nat
  stopBits : Nat
deriving DecidableEq, Repr

/-- A wire character frame as it stands at its first stop bit (R131): the data bits, the parity bit, whether the stop bit is at mark, and,
for a frame that began before a settings write or a LINEHOLD, the settings it began with (R130, R143; log 16). -/
structure WireFrame where
  bits      : Byte
  parityBit : Bool
  stopMark  : Bool
  begun     : Option LineFormat
deriving DecidableEq, Repr

/-- What has come about at the store and the set link since the last decision of the arbiter: the addresses of the words that have lost a bit
(log 4), and the number of payload bytes that the set link's transmitter has taken (log 32). -/
structure SinceDecision where
  upsets : List (BitVec 24)
  taken  : Nat
deriving DecidableEq, Repr

/-- The commands. -/
inductive Instr where
  -- the RESET input and the commands of setup item 30h (chapter 11)
  | powerOn
  | coldRestart
  | warmRestart
  | passive
  -- setup line transfers (R181)
  | settingWrite (first index : Byte) (data : List Byte)
  | widthEntryWrite (index : Byte) (data : List Byte)
  | wireLineWrite (index : Byte) (data : List Byte)
  | maximumRateWrite (data : List Byte)
  | answerTimeoutWrite (data : List Byte)
  | faultBankClear (index : Byte) (data : List Byte)
  | faultSummary
  -- copy-bus transactions (Table 1-7)
  | read (agent : Fin 16) (addr : BitVec 24)
  | write (agent : Fin 16) (addr : BitVec 24) (be : BitVec 4) (data : Word) (tag : Option (Fin 128))
  | lockedRead (agent : Fin 16) (addr : BitVec 24) (tag : Option (Fin 128))
  | lockedWrite (agent : Fin 16) (addr : BitVec 24) (be : BitVec 4) (data : Word) (tag : Option (Fin 128))
  | lockedPairTimeout
  | deferredWorkAtPairClose
  | arbiterDecision (passWaiting : Bool) (since : SinceDecision)
  | scrub
  | retryReport
  -- the Slip Unit (chapter 3)
  | postingNotice
  | slipChoice
  | capture
  | resultWrite
  | attentionPulseEnd (agent : Fin 16)
  | abandonedResult
  | noopSlip
  | clockSlip
  | editionSlip
  | pathstatSlip
  | faultsSlip
  | positionSlip
  | deskSlip
  -- the Directory Unit (chapter 2)
  | openSlip
  | extendSlip
  | trimSlip
  | adoptSlip
  | storystatSlip
  | slipFillGrant
  | adoptListRead
  -- the Desk Unit (chapter 4)
  | sendSlip
  | takeSlip
  | recallSlip
  | spikeSlip
  | bracketSlip
  | basketstatSlip
  | bracketTimeExpiry (entry : Fin 8)
  | deskWriteNotice
  -- the Fit Unit (chapter 5)
  | specSlip
  | unspecSlip
  | fitstatSlip
  | fitWriteNotice
  | fitLengthNotice
  | fitPlacementNotice
  | fitOpeningNotice
  | fitEndingNotice
  | countStart
  | fitReadGrant
  -- the Screen Unit (chapter 6)
  | viewSlip
  | scrollSlip
  | reshowSlip
  | screenWriteNotice
  | screenLengthNotice
  | screenFitNotice
  | screenOpeningNotice
  | screenEndingNotice
  | lockNotice
  | screenPlacementNotice
  | markNotice
  | editionNotice
  | handNotice
  | basketNotice
  | screenFetchGrant
  -- the Clock (R45)
  | msTick
  | secondTick
  | minuteTick
  | editionDeadline (edition : Nat)
  -- the Link Controllers (chapter 7)
  | dirtyNotice (link : Fin 16)
  | rowFrameEnd (link : Fin 16)
  | sleepFrameEnd (link : Fin 16)
  | linkSleep (link : Fin 16)
  | wakeDriveEnd (link : Fin 16)
  | helloReqEnd (link : Fin 16)
  | wakeWindowEnd (link : Fin 16)
  | hello (link : Fin 16) (header : BitVec 32)
  | rowbad (link : Fin 16) (header : BitVec 32)
  | wake (link : Fin 16)
  | discardedHeader (link : Fin 16) (header : BitVec 32)
  | ignoredUpstreamFrame (link : Fin 16) (header : BitVec 32)
  | linkstatSlip
  -- the Intake Unit (chapter 8)
  | character (line : Fin 8) (frame : WireFrame)
  | wireBreak (line : Fin 8)
  | silence (line : Fin 8)
  | assemblerCharacter (line : Fin 8)
  | assemblerMarker (line : Fin 8)
  | intakeWriteGrant
  | intakeFillGrant
  | delivery (line : Fin 8)
  | lineholdSlip
  | lineresumeSlip
  | linestatSlip
  -- the Page Unit (chapter 9)
  | placeSlip
  | unplaceSlip
  | copypageSlip
  | releaseSlip
  | withdrawSlip
  | pagestatSlip
  | pageWriteNotice
  | pageFitNotice
  | pageOpeningNotice
  | pageEndingNotice
  | ready
  | placeEndReport
  | attemptOutcome
  | lockLimitExpiry
  -- the Set Link Controller (chapter 10)
  | offerTimeout
  | accept (bytes : List Byte)
  | setAnswer (bytes : List Byte)
  | refuseAnswer (bytes : List Byte)
  | answerTimeout
  | hold
  | go
  | badFrame (bytes : List Byte)
  | frameTimeout
  | setFrameSent
  | pageCancelSent
  | setReadGrant
  | textFrameSpoiled
  | cancel
  | setstatSlip
  -- the Fault Unit (R179) and a wire line's return to mark (R131)
  | faultRecord
  | returnToMark (line : Fin 8)
deriving DecidableEq, Repr

end Sys2Proof
end

