-- ==== Sys2Proof/WellFormed.lean ====
section
/-! DEFINITION. Which commands are well formed: the operand ranges that the types of Syntax.lean do not already hold. Meanings are total; a
command that is not well formed still runs (R181 disregards such a transfer; the others find nothing to do). -/

namespace Sys2Proof

/-- The items of Table 11-3 that can be written, with the number of their data bytes. -/
def writtenItems : List (Nat × Nat) :=
  [(0x01, 1), (0x02, 2), (0x03, 2), (0x04, 2), (0x08, 2), (0x09, 1), (0x0A, 2), (0x0B, 2), (0x0C, 6), (0x0D, 2), (0x0E, 2), (0x0F, 1),
    (0x10, 2), (0x11, 1), (0x12, 1), (0x18, 1), (0x21, 1), (0x30, 1)]

/-- R130: the values a line's settings can hold. -/
def LineFormat.wellFormed (f : LineFormat) : Bool :=
  f.rate ≤ 6 && (f.dataBits == 7 || f.dataBits == 8) && f.parity ≤ 2 && (f.stopBits == 1 || f.stopBits == 2)

/-- The operand checks of a command. -/
def Instr.wellFormed : Instr → Bool
  | .settingWrite first _ data => 128 ≤ first.toNat || writtenItems.any fun p => p.1 == first.toNat && p.2 ≤ data.length
  | .widthEntryWrite _ data => 2 ≤ data.length
  | .wireLineWrite _ data => 6 ≤ data.length
  | .maximumRateWrite data => 1 ≤ data.length
  | .answerTimeoutWrite data => 1 ≤ data.length
  | .faultBankClear _ data => 1 ≤ data.length
  | .arbiterDecision _ since => since.upsets.all fun a => a.toNat % 4 == 0
  | .editionDeadline e => 1 ≤ e && e ≤ 4
  | .character _ f => (f.begun.map LineFormat.wellFormed).getD true
  | .accept bytes => bytes != []
  | .setAnswer bytes => bytes != []
  | .refuseAnswer bytes => bytes != []
  | .badFrame bytes => bytes != []
  | _ => true

end Sys2Proof
end

