-- ==== Sys2Proof/Machine/State.lean ====
section
/-! DEFINITION. The state of the part as plain data: each unit's state in a structure of its own, as Table 1-1 lists it, the store behind
the part, the notices in flight between units, and the queue of waiting commands. The default of every field is its value at power-on, so
`State.reset` is the state right after power-on. -/

namespace Sys2Proof.Machine

/-- A sparse table: the entries that differ from their default, by strictly rising number (log 3). -/
abbrev Table (α : Type) := List (Nat × α)

/-! ### Path Unit (chapter 1) -/

/-- PASSIVE or ACTIVE (section 11.4). -/
inductive PartState where
  | passive
  | active
deriving DecidableEq, Repr

/-- The structural settings of Table 1-8, with their defaults. -/
structure Regions where
  storeMiB  : Nat := 16
  copyFirst : Nat := 16
  copyCount : Nat := 12288
  slipBase  : Nat := 0
deriving DecidableEq, Repr

/-- The reasons of a REFUSE (section 1.6). -/
inductive Reason where
  | none
  | beyond
  | ringowner
  | unowned
  | notholder
  | wrongagent
deriving DecidableEq, Repr

/-- An agent's refusal record (R13). -/
structure Refused where
  count  : Nat := 0
  addr   : Nat := 0
  reason : Reason := .none
deriving DecidableEq, Repr

/-- The four responses of the copy bus (R2). -/
inductive Response where
  | done
  | retry
  | refuse
  | fail
deriving DecidableEq, Repr

/-- The response the part last drove on the copy bus, with the word of a read kind answered DONE (R1, R2). -/
structure Answer where
  agent    : Nat
  response : Response
  data     : Option Word
deriving DecidableEq, Repr

/-- How a word decodes (section 1.5). The 7 check bits stand as this condition, since the manual does not give their code (log 4). -/
inductive Ecc where
  | clean
  | corrected
  | uncorrected
deriving DecidableEq, Repr

/-- The verdict a locked pair holds (R8): by the region its LOCKED-READ was let read in. -/
inductive Verdict where
  | openArea
  | ownRing
  | accepted (story : Nat) (index : Nat)
deriving DecidableEq, Repr

/-- An open locked pair (R8) and the 1 ms ticks given since it opened. -/
structure Pair where
  agent   : Nat
  addr    : Nat
  verdict : Verdict
  ticks   : Nat
deriving DecidableEq, Repr

/-- A store write of the Intake Unit: one copy line of a line's story, text or fill (R138, R139). -/
structure IntakeReq where
  line     : Nat
  story    : Nat
  copyLine : Nat
  addr     : Nat
  fill     : Bool
  bytes    : List Byte
deriving DecidableEq, Repr

/-- A Screen fetch of one copy line for a link (R109). -/
structure ScreenReq where
  link : Nat
  addr : Nat
deriving DecidableEq, Repr

/-- A request of the Slip Unit (Table 1-9). -/
inductive SlipReq where
  | capture (addr : Nat)
  | result (addr : Nat) (w5 w6 w7 : Word)
  | fill (addr : Nat)
  | listRead (addr : Nat) (words : Nat)
  | abandoned (addr : Nat)
deriving DecidableEq, Repr

/-- A grant of the store port (R15). -/
inductive Grant where
  | pass
  | scrub (addr : Nat)
  | set (addr : Nat)
  | intake (r : IntakeReq)
  | screen (r : ScreenReq)
  | slip (r : SlipReq)
  | fit (addr : Nat)
deriving DecidableEq, Repr

structure PathUnit where
  regions    : Regions := {}
  port       : Option Grant := none
  orphan     : Bool := false
  streak     : Nat := 0
  pair       : Option Pair := none
  scrubQueue : List Nat := []
  refusals   : Table Refused := []
  answer     : Option Answer := none
deriving DecidableEq, Repr

/-! ### Directory Unit (chapter 2) and the fit record (chapter 5) -/

/-- Where a story belongs (R18). -/
inductive Custody where
  | free
  | intake (line : Nat)
  | basket (desk : Nat)
  | held (position : Nat)
deriving DecidableEq, Repr

inductive StoryClass where
  | flash
  | urgent
  | routine
deriving DecidableEq, Repr

/-- How a bracket ended (R70); `none` for a story that had no bracket. -/
inductive BracketEnd where
  | none
  | full
  | time
  | broken
deriving DecidableEq, Repr

/-- Table 5-3. -/
inductive FitState where
  | none
  | queued
  | counting
  | bracketed
  | current
  | error
deriving DecidableEq, Repr

/-- A fit spec (Table 5-1). -/
structure FitSpec where
  size    : Nat
  leading : Nat
  measure : Nat
  indent  : Nat
  font    : Nat
deriving DecidableEq, Repr

inductive HoleKind where
  | nohole
  | fits
  | over
  | short
deriving DecidableEq, Repr

/-- A story against one hole (R85). -/
structure HoleResult where
  kind   : HoleKind := .nohole
  lines  : Nat := 0
  amount : Nat := 0
  cut    : Option Nat := none
deriving DecidableEq, Repr

/-- Table 5-1. -/
structure FitRecord where
  spec            : Option FitSpec := none
  state           : FitState := .none
  lines           : Nat := 0
  sat             : Bool := false
  depth           : Nat := 0
  outcomes        : Table HoleResult := []
  changedBracket  : Bool := false
  changedCount    : Bool := false
deriving DecidableEq, Repr

/-- Twelve spaces, the slug of a FREE entry (R17). -/
def blankSlug : List Byte := List.replicate 12 0x20

/-- Table 2-1. `placements` names, for an edition 1 to 4, the Page Table entry and the placement index of the story there. -/
structure Story where
  custody     : Custody := .free
  slug        : List Byte := blankSlug
  cls         : StoryClass := .routine
  chain       : List Nat := []
  filling     : Option Nat := none
  truncated   : Bool := false
  gapped      : Bool := false
  entryTime   : Nat := 0
  takeTime    : Nat := 0
  fit         : FitRecord := {}
  placements  : Table (Option (Nat × Nat)) := []
  bracketRef  : Option Nat := none
  lastBracket : BracketEnd := .none
deriving DecidableEq, Repr

/-- A Block Map entry (R20): the owner, 0 when free, and the chain index. -/
structure BlockEntry where
  owner : Nat := 0
  index : Nat := 0
deriving DecidableEq, Repr

/-- Table 2-3. -/
structure Position where
  inUse : Bool := false
  desk  : Nat := 0
  agent : Nat := 0
  link  : Nat := 0
  drop  : Nat := 0
  chief : Bool := false
  hand  : List Nat := []
deriving DecidableEq, Repr

/-- A Desk Table entry (R29). -/
structure Desk where
  name   : List Byte
  makeup : Bool
deriving DecidableEq, Repr

structure Directory where
  stories   : Table Story := []
  blockMap  : Table BlockEntry := []
  positions : Table Position := []
  desks     : Table Desk := []
deriving DecidableEq, Repr

/-! ### Slip Unit (chapter 3) -/

/-- Every slip kind of the six units (Tables 3-4, 2-4, 4-1, 6-3, 5-2, 9-5, 8-3, R127, R177). -/
inductive SlipKind where
  | noop | clock | edition | pathstat | faults | position | desk
  | openStory | extend | trim | adopt | storystat
  | send | take | recall | spike | bracket | basketstat
  | view | scroll | reshow | linkstat
  | spec | unspec | fitstat
  | place | unplace | copypage | release | withdraw | pagestat | setstat
  | linehold | lineresume | linestat
deriving DecidableEq, Repr

/-- Where the slip in service stands. -/
inductive Phase where
  /-- its capture waits or is in its grant (R40) -/
  | capturing
  /-- handed to its owning unit (R41) -/
  | dispatched (kind : SlipKind)
  /-- held by its unit for a locked pair (R8, R55) -/
  | held (kind : SlipKind)
  /-- an OPEN or EXTEND filling its blocks: the blocks and the copy lines written so far (R22) -/
  | filling (story : Nat) (blocks : List Nat) (linesDone : Nat)
  /-- an ADOPT reading its list: the words read so far, none for an uncorrectable one (R33) -/
  | listing (words : List (Option Word))
  /-- answered: its result waits or is in its grant (R42) -/
  | answered
deriving DecidableEq, Repr

/-- What a warm restart undoes if the result grant has not begun (R36). -/
inductive Undo where
  | nothing
  /-- an OPEN, or an ADOPT whose deciding event has been taken: the story it made -/
  | freeStory (story : Nat)
  /-- an EXTEND: the story, its chain length before, and whether the length notice has gone out -/
  | shorten (story : Nat) (length : Nat) (noticed : Bool)
deriving DecidableEq, Repr

/-- The slip in service. -/
structure Service where
  agent     : Nat
  slot      : Nat
  words     : List Word
  attention : Bool
  phase     : Phase
  undo      : Undo
deriving DecidableEq, Repr

structure SlipUnit where
  pendingLists : Table (List Nat) := []
  service      : Option Service := none
  nextAgent    : Nat := 0
  request      : Option SlipReq := none
  abandon      : List (Nat × Nat) := []
  affected     : List Nat := []
  heldPosts    : List (Nat × Nat) := []
  attention    : Table Bool := []
  privMask     : BitVec 16 := 1
deriving DecidableEq, Repr

/-! ### Clock (section 3.5) -/

/-- `secondDue`: the 1 s tick of a wrapped millisecond count has not been taken yet. `minuteDue`: the same for the minute tick.
`deadlineTicks`: the editions whose 1 s tick the Page Unit has not taken yet, each with the time-of-day of that tick (log 13). -/
structure ClockUnit where
  tod           : Nat := 0
  ms            : Nat := 0
  clockSet      : Bool := false
  secondDue     : Bool := false
  minuteDue     : Bool := false
  deadlineTicks : List (Nat × Nat) := []
deriving DecidableEq, Repr

/-! ### Desk Unit (chapter 4) -/

/-- Table 4-2. -/
structure Bracket where
  inUse    : Bool := false
  story    : Nat := 0
  opener   : Nat := 0
  count    : Nat := 0
  timeLeft : Nat := 0
deriving DecidableEq, Repr

structure DeskUnit where
  baskets      : Table (List Nat) := []
  brackets     : Table Bracket := []
  recallGuard  : Nat := 10
  bracketLimit : Nat := 2000
deriving DecidableEq, Repr

/-! ### Fit Unit (chapter 5) -/

/-- A placement's budget in a count (R84): its edition, its hole lines, the lines still to come and the cut offset once recorded. -/
structure Budget where
  edition : Nat
  lines   : Nat
  left    : Nat
  cut     : Option Nat
deriving DecidableEq, Repr

/-- What the walk carries forward (section 5.4). `word` holds the characters of the word being read, the last one first, each with its
byte offset and width. -/
structure Walk where
  offset  : Nat
  font    : Nat
  first   : Bool
  holds   : Bool
  width   : Nat
  sep     : Option Nat
  word    : List (Nat × Nat)
  lines   : Nat
  sat     : Bool
  budgets : List Budget
deriving DecidableEq, Repr

/-- The count in progress (R89): its captures, the copy lines walked and the walk. -/
structure Count where
  story  : Nat
  spec   : FitSpec
  mu     : Nat
  blocks : List Nat
  done   : Nat
  walk   : Walk
deriving DecidableEq, Repr

structure FitUnit where
  widths    : Table Nat := []
  lastCode  : Table Nat := []
  queue     : List Nat := []
  count     : Option Count := none
  request   : Option Nat := none
  bracketed : List Nat := []
deriving DecidableEq, Repr

/-! ### Screen Unit (chapter 6) -/

/-- Table 6-2. -/
structure View where
  story : Option Nat := none
  top   : Nat := 0
  known : Nat := 0
deriving DecidableEq, Repr

structure ScreenUnit where
  views     : Table View := []
  dirty     : Table (BitVec 24) := []
  bracketed : List Nat := []
  requests  : List ScreenReq := []
deriving DecidableEq, Repr

/-! ### Link Controllers (chapter 7) -/

inductive DropState where
  | absent
  | present
  | faulty
deriving DecidableEq, Repr

/-- Table 7-2. -/
structure Drop where
  state    : DropState := .absent
  rowbad   : Nat := 0
  rows     : Nat := 0
  columns  : Nat := 0
  version  : Nat := 0
  answered : Bool := false
deriving DecidableEq, Repr

inductive LinkState where
  | off
  | waking
  | awake
  | sleeping
deriving DecidableEq, Repr

/-- The row in hand of a link: the position and drop it was fetched for, its number, whether it was composed at once or is read from the
store (R109), and its characters once they are there (R110). -/
structure RowInHand where
  position : Nat
  drop     : Nat
  row      : Nat
  composed : Bool
  chars    : Option (List Byte)
deriving DecidableEq, Repr

/-- A downstream frame (Table 7-1). -/
inductive DownFrame where
  | row (drop : Nat) (row : Nat) (chars : List Byte)
  | blank (drop : Nat) (row : Nat)
  | helloReq (drop : Nat)
  | sleep (drop : Nat)
deriving DecidableEq, Repr

/-- Table 7-2 and the link's own work. `turning`: the link takes turns; it stops when a whole round has found no row (R117). -/
structure Link where
  state           : LinkState := .off
  wakeTry         : Nat := 0
  retryDue        : Bool := false
  sleepInProgress : Bool := false
  wakePending     : Bool := false
  idleTime        : Nat := 0
  sleepDue        : Bool := false
  turn            : Nat := 0
  turning         : Bool := false
  drops           : Table Drop := []
  hand            : Option RowInHand := none
  frame           : Option DownFrame := none
  control         : List DownFrame := []
  driving         : Bool := false
  window          : Option Nat := none
  corrected       : Nat := 0
  discarded       : Nat := 0
  rowsSent        : Nat := 0
  ignored         : Nat := 0
deriving DecidableEq, Repr

structure LinkUnit where
  table : Table Link := []
  idle  : Nat := 5000
deriving DecidableEq, Repr

/-! ### Intake Unit (chapter 8) -/

/-- The marker entries of a FIFO (R133). -/
inductive Marker where
  | brk
  | silence
  | gap
deriving DecidableEq, Repr

inductive Entry where
  | char (value : Byte) (spoiled : Bool)
  | mark (m : Marker)
deriving DecidableEq, Repr

/-- Table 8-2. -/
inductive TakeState where
  | idle
  | header
  | body
  | truncating
  | discarding
  | ending
deriving DecidableEq, Repr

structure Line where
  rate           : Nat := 3
  dataBits       : Nat := 7
  parity         : Nat := 1
  stopBits       : Nat := 1
  desk           : Nat := 0
  enable         : Bool := false
  held           : Bool := false
  received       : Nat := 0
  spoiled        : Nat := 0
  lost           : Nat := 0
  discarded      : Nat := 0
  delivered      : Nat := 0
  takesLost      : Nat := 0
  takesTruncated : Nat := 0
  breaks         : Nat := 0
  heldFrame      : Option Byte := none
  breakTaken     : Bool := false
  fifo           : List Entry := []
  marks          : List Marker := []
  silenceTime    : Nat := 0
  silenced       : Bool := false
  silenceDue     : Bool := false
  take           : TakeState := .idle
  story          : Nat := 0
  cls            : StoryClass := .routine
  header         : List (Byte × Bool) := []
  startPending   : Bool := false
  buf            : List Byte := []
  full           : Option (List Byte) := none
  copyLine       : Nat := 0
  backlog        : List (Byte × Bool) := []
  fill           : Option (Nat × Nat) := none
  outstanding    : Bool := false
deriving DecidableEq, Repr

structure IntakeUnit where
  lines       : Table Line := []
  takeSilence : Nat := 60
  requests    : List IntakeReq := []
deriving DecidableEq, Repr

/-! ### Page Unit (chapter 9) -/

structure Edition where
  isOpen   : Bool := true
  deadline : Option Nat := none
deriving DecidableEq, Repr

/-- Table 9-4. -/
inductive PageState where
  | making
  | queued
  | sending
  | set
  | stale
  | returned
  | failed
deriving DecidableEq, Repr

/-- The last outcome of a page (Table 9-2). -/
inductive AttemptEnd where
  | none
  | set
  | refuse
  | timeout
  | underflow
  | lockLimit
  | readFail
  | withdrawn
  | returned
  | restart
deriving DecidableEq, Repr

/-- The outcome of an attempt as the Set Link Controller reports it to the Page Unit (R163): a REFUSE with its reason (R174). -/
inductive LinkOutcome where
  | set
  | refuse (reason : Nat)
  | timeout
  | underflow
  | readFail
  | restart
deriving DecidableEq, Repr

inductive PlaceMode where
  | refuse
  | cut
deriving DecidableEq, Repr

/-- An attempt record (R160). -/
structure AttemptRec where
  size         : Nat
  leading      : Nat
  measure      : Nat
  indent       : Nat
  lines        : Nat
  holeLines    : Nat
  cut          : Bool
  cutOffset    : Nat
  linesSent    : Nat
  blocks       : List Nat
  length       : Nat
  locked       : Bool
  placeEndSent : Bool
  written      : Bool
deriving DecidableEq, Repr

/-- Table 9-3. An empty slot has story 0. -/
structure Placement where
  story   : Nat := 0
  column  : Nat := 0
  span    : Nat := 0
  hole    : Nat := 0
  mode    : PlaceMode := .refuse
  attempt : Option AttemptRec := none
deriving DecidableEq, Repr

/-- Table 9-2. -/
structure Page where
  inUse       : Bool := false
  edition     : Nat := 0
  number      : Nat := 0
  state       : PageState := .making
  placements  : Table Placement := []
  attempts    : Nat := 0
  setTime     : Nat := 0
  lastOutcome : AttemptEnd := .none
deriving DecidableEq, Repr

structure PageUnit where
  editions     : Table Edition := []
  pages        : Table Page := []
  queue        : List Nat := []
  attemptLimit : Nat := 3
  lockLimit    : Nat := 5000
  lockLeft     : Option Nat := none
  lockStarted  : Bool := false
  bracketed    : List Nat := []
  pickHeld     : Bool := false
deriving DecidableEq, Repr

/-! ### Set Link Controller (chapter 10) -/

inductive SetState where
  | down
  | starting
  | ready
  | sending
  | awaiting
deriving DecidableEq, Repr

/-- The reasons of a PAGE-CANCEL (Table 10-1). -/
inductive CancelReason where
  | withdrawn
  | lockLimit
  | readFail
  | underflow
deriving DecidableEq, Repr

/-- What the Controller holds of one placement of its attempt (R170). -/
structure SetRecord where
  index     : Nat
  story     : Nat
  column    : Nat
  span      : Nat
  size      : Nat
  leading   : Nat
  indent    : Nat
  measure   : Nat
  hole      : Nat
  linesSent : Nat
  cut       : Bool
  textEnd   : Nat
  blocks    : List Nat
deriving DecidableEq, Repr

/-- The attempt the Controller carries: its key, placement count and pick time, and the records still to be sent, the current one first. -/
structure Attempt where
  edition  : Nat
  page     : Nat
  count    : Nat
  pickTime : Nat
  todo     : List SetRecord
deriving DecidableEq, Repr

/-- The sending pass of a placement (R171): the text count, whether PLACE has begun, the bytes sent in whole frames, the offset after the
last of them, the next copy line to read, and the copy lines read ahead, each byte with its offset. -/
structure SendPass where
  text     : Nat
  placed   : Bool
  sent     : Nat
  pos      : Nat
  nextLine : Nat
  ahead    : List (List (Nat × Byte))
deriving DecidableEq, Repr

/-- Where the sequence of R170 stands. -/
inductive Stage where
  | opening
  | sizing (nextLine : Nat) (count : Nat)
  | sending (p : SendPass)
  | closing
deriving DecidableEq, Repr

/-- A frame to the typesetter (Table 10-1). A TEXT frame has its length, the payload bytes that the transmitter has taken, each with its
offset in the story, and whether it is spoiled (R172). -/
inductive SetFrame where
  | offer (code : Nat)
  | pageOpen (edition page count time : Nat)
  | place (r : SetRecord) (text : Nat)
  | text (length : Nat) (payload : List (Nat × Byte)) (spoilt : Bool)
  | placeEnd (index : Nat)
  | pageClose (edition page : Nat)
  | pageCancel (edition page : Nat) (reason : CancelReason)
deriving DecidableEq, Repr

structure SetLink where
  state         : SetState := .down
  rate          : Nat := 0
  workingMax    : Nat := 5
  offerCount    : Nat := 0
  held          : Bool := false
  checkCount    : Nat := 0
  spoiled       : Nat := 0
  answerTime    : Nat := 0
  answerLimit   : Nat := 0
  offered       : Nat := 0
  offerWait     : Option Nat := none
  badFrames     : Nat := 0
  outOfTurn     : Nat := 0
  spoiledTotal  : Nat := 0
  maxRate       : Nat := 5
  answerTimeout : Nat := 20
  rx            : List Byte := []
  rxTicks       : Nat := 0
  attempt       : Option Attempt := none
  stage         : Stage := .opening
  tx            : Option SetFrame := none
  cancel        : Option CancelReason := none
  startDue      : Bool := false
  request       : Option Nat := none
deriving DecidableEq, Repr

/-! ### Fault Unit and Setup Port (chapter 11) -/

/-- Table 11-1. -/
structure Bank where
  valid         : Bool := false
  overflow      : Bool := false
  uncorrected   : Bool := false
  locationValid : Bool := false
  code          : Nat := 0
  location      : Nat := 0
  count         : Nat := 0
deriving DecidableEq, Repr

inductive BankName where
  | store
  | screen
  | wire
  | set
deriving DecidableEq, Repr

/-- A fault record on its way to a bank (R12, R126, R176, Table 8-1). -/
structure FaultRecord where
  bank          : BankName
  code          : Nat
  location      : Nat
  locationValid : Bool
  uncorrected   : Bool
deriving DecidableEq, Repr

structure FaultUnit where
  store   : Bank := {}
  screen  : Bank := {}
  wire    : Bank := {}
  set     : Bank := {}
  latch   : Bool := false
  enables : BitVec 4 := 0xF
deriving DecidableEq, Repr

structure SetupPort where
  partState   : PartState := .passive
  lastCommand : Nat := 0
  outcome     : Nat := 0
  staged      : Regions := {}
  dataOut     : List Byte := []
deriving DecidableEq, Repr

/-! ### Notices and the whole state -/

/-- The content of a write notice of R7. -/
structure WriteNote where
  story    : Nat
  index    : Nat
  offset   : Nat
  line     : Nat
  agent    : Nat
  position : Nat
deriving DecidableEq, Repr

/-- A notice or report sent by one unit and not yet taken by another (log 9). -/
inductive Notice where
  | deskWrite (w : WriteNote)
  | fitWrite (w : WriteNote)
  | pageWrite (w : WriteNote)
  | pageLength (story blocks : Nat)
  | screenWrite (w : WriteNote)
  | screenLine (story line : Nat)
  | fitLength (story blocks : Nat)
  | screenLength (story blocks : Nat)
  | screenFit (story : Nat)
  | pageFit (story : Nat)
  | screenOpening (story : Nat)
  | fitOpening (story : Nat)
  | pageOpening (story : Nat)
  | screenEnding (story : Nat) (outcome : BracketEnd)
  | fitEnding (story : Nat) (outcome : BracketEnd)
  | pageEnding (story : Nat) (outcome : BracketEnd)
  | lock (story : Nat)
  | screenPlacement (story edition : Nat)
  | fitPlacement (story edition : Nat)
  | mark (story : Nat)
  | edition (edition : Nat) (stateChanged : Bool)
  | hand (position : Nat)
  | basket (desk : Nat)
  | retryReport (story : Nat)
  | posting (agent slot : Nat)
  | dirty (link drop : Nat)
  | ready
  | placeEnd (index : Nat)
  | outcome (e : LinkOutcome)
  | cancel (r : CancelReason)
  | fault (r : FaultRecord)
deriving DecidableEq, Repr

/-- Reasons to stop with a fault. The manual stops the part nowhere (INVENTORY.md, Faults), so there is none. -/
inductive Fault where
deriving DecidableEq, Repr

/-- Reasons to refuse a command. -/
inductive Refusal where
  /-- The command has no meaning in this model. Raised by no arm of `exec`. Safe: a claim about such a command could not be proved. -/
  | notModelled (mnemonic : String)
deriving DecidableEq, Repr

/-- The whole state. -/
structure State where
  pending : List Instr := []
  notices : List Notice := []
  mem     : List Host.Cell := []
  flaws   : Table Ecc := []
  path    : PathUnit := {}
  dir     : Directory := {}
  slip    : SlipUnit := {}
  clock   : ClockUnit := {}
  desk    : DeskUnit := {}
  fit     : FitUnit := {}
  screen  : ScreenUnit := {}
  links   : LinkUnit := {}
  intake  : IntakeUnit := {}
  page    : PageUnit := {}
  set     : SetLink := {}
  fault   : FaultUnit := {}
  setup   : SetupPort := {}
deriving DecidableEq, Repr

/-- The part right after power-on (R183): every unit's power-on values, nothing listed in the store, no notice and no command waiting. -/
def State.reset : State := {}

end Sys2Proof.Machine
end

