-- ==== Sys2Proof/Machine/Table.lean ====
section
/-! DEFINITION. Sparse tables and the store's bytes in one canonical form: numbers strictly rising, no entry equal to its default (log 3). -/

namespace Sys2Proof.Machine

/-- The entry at `k`; an unlisted one reads as its default. -/
def tget {α : Type} (dflt : Nat → α) : Table α → Nat → α
  | [], k => dflt k
  | (j, v) :: t, k => if j = k then v else tget dflt t k

/-- The table without the entry at `k`. -/
def tdrop {α : Type} (k : Nat) : Table α → Table α
  | [] => []
  | (j, v) :: t => if j = k then tdrop k t else (j, v) :: tdrop k t

/-- The table with an entry put before the first larger number. -/
def tins {α : Type} (k : Nat) (v : α) : Table α → Table α
  | [] => [(k, v)]
  | (j, u) :: t => if k < j then (k, v) :: (j, u) :: t else (j, u) :: tins k v t

/-- The table with `v` at `k`: writing the default removes the entry. -/
def tset {α : Type} [DecidableEq α] (dflt : Nat → α) (t : Table α) (k : Nat) (v : α) : Table α :=
  if v = dflt k then tdrop k t else tins k v (tdrop k t)

/-- Every number of the table is above `k`. -/
def tabove {α : Type} (k : Nat) : Table α → Bool
  | [] => true
  | (j, _) :: t => decide (k < j) && tabove k t

/-- The canonical form of a table. -/
def twf {α : Type} [DecidableEq α] (dflt : Nat → α) : Table α → Bool
  | [] => true
  | (j, v) :: t => tabove j t && decide (v ≠ dflt j) && twf dflt t

/-- What a byte that nothing has written reads as (log 3). -/
def unwritten : Nat → Byte := fun _ => 0

/-- The canonical form of the store's bytes. -/
def Memory.wf (m : List Host.Cell) : Bool := twf unwritten m

end Sys2Proof.Machine
end

