-- ==== Sys2Proof/Machine/Fields.lean ====
section
/-! DEFINITION. The updates of one field of the state, used by every operation; their lemmas stand in Laws/State.lean. -/

namespace Sys2Proof.Machine

def State.withPending (s : State) (v : List Instr) : State := { s with pending := v }
def State.withNotices (s : State) (v : List Notice) : State := { s with notices := v }
def State.withMem (s : State) (v : List Host.Cell) : State := { s with mem := v }
def State.withFlaws (s : State) (v : Table Ecc) : State := { s with flaws := v }
def State.withPath (s : State) (v : PathUnit) : State := { s with path := v }
def State.withDir (s : State) (v : Directory) : State := { s with dir := v }
def State.withSlip (s : State) (v : SlipUnit) : State := { s with slip := v }
def State.withClock (s : State) (v : ClockUnit) : State := { s with clock := v }
def State.withDesk (s : State) (v : DeskUnit) : State := { s with desk := v }
def State.withFit (s : State) (v : FitUnit) : State := { s with fit := v }
def State.withScreen (s : State) (v : ScreenUnit) : State := { s with screen := v }
def State.withLinks (s : State) (v : LinkUnit) : State := { s with links := v }
def State.withIntake (s : State) (v : IntakeUnit) : State := { s with intake := v }
def State.withPage (s : State) (v : PageUnit) : State := { s with page := v }
def State.withSet (s : State) (v : SetLink) : State := { s with set := v }
def State.withFault (s : State) (v : FaultUnit) : State := { s with fault := v }
def State.withSetup (s : State) (v : SetupPort) : State := { s with setup := v }

end Sys2Proof.Machine
end

