-- ==== Sys2Proof/Machine/Operands.lean ====
section
/-! DEFINITION. Operand forms: bytes and 16-bit values of a word (chapter 3: byte order of a word), slip headers (Table 3-1), setup data,
clamping (section 1.7), and the decimal figures of the status rows. -/

namespace Sys2Proof.Machine

/-- Byte `i` of a word, in address order (log 5). -/
def byteAt (w : Word) (i : Nat) : Nat := w.toNat / 256 ^ i % 256

/-- The 16-bit value in bytes 2i and 2i+1 of a word, low byte first. -/
def halfAt (w : Word) (i : Nat) : Nat := w.toNat / 65536 ^ i % 65536

/-- A word of four bytes, byte 0 first. -/
def packBytes (b0 b1 b2 b3 : Nat) : Word :=
  BitVec.ofNat 32 (b0 % 256 + 256 * (b1 % 256) + 65536 * (b2 % 256) + 16777216 * (b3 % 256))

/-- A word of two 16-bit values, the low one first. -/
def packHalves (h0 h1 : Nat) : Word := BitVec.ofNat 32 (h0 % 65536 + 65536 * (h1 % 65536))

/-- A word holding a number. -/
def packNat (n : Nat) : Word := BitVec.ofNat 32 n

/-- The four bytes of a word in address order. -/
def wordBytes (w : Word) : List Byte :=
  [BitVec.ofNat 8 (byteAt w 0), BitVec.ofNat 8 (byteAt w 1), BitVec.ofNat 8 (byteAt w 2), BitVec.ofNat 8 (byteAt w 3)]

/-- The number held by bytes, low byte first. -/
def leNat : List Byte → Nat
  | [] => 0
  | b :: r => b.toNat + 256 * leNat r

/-- A number as `n` bytes, low byte first. -/
def leBytes : Nat → Nat → List Byte
  | 0, _ => []
  | n + 1, v => BitVec.ofNat 8 (v % 256) :: leBytes n (v / 256)

/-- The bytes of a text of characters below 80h. -/
def ascii (t : String) : List Byte := t.toList.map fun c => BitVec.ofNat 8 c.toNat

/-- Section 1.7: clamping. -/
def clamp (lo hi n : Nat) : Nat := if n < lo then lo else if hi < n then hi else n

/-- Section 1.7: a count that saturates. -/
def satAdd (limit n k : Nat) : Nat := if limit < n + k then limit else n + k

/-- R17: a slug or name byte outside 20h to 7Eh is stored as 20h. -/
def slugByte (b : Byte) : Byte := if 0x20 ≤ b.toNat ∧ b.toNat ≤ 0x7E then b else 0x20

/-- Bytes cut or padded with spaces to `n`. -/
def padTo (n : Nat) (l : List Byte) : List Byte := (l ++ List.replicate n 0x20).take n

/-- A slug of 12 characters from given bytes (R17). -/
def makeSlug (l : List Byte) : List Byte := padTo 12 (l.map slugByte)

/-- Word `i` of a slip's captured content (R40). -/
def Service.word (v : Service) (i : Nat) : Word := v.words.getD i 0

/-- R37: the position tag of a header, none for 80h to FFh. -/
def Service.tag (v : Service) : Option Nat :=
  if byteAt (v.word 0) 2 < 128 then some (byteAt (v.word 0) 2) else none

/-- The position a slip acts for; the common checks have made sure that there is one (R41). -/
def Service.position (v : Service) : Nat := v.tag.getD 0

/-- The bytes of words `i` to `i + n - 1` of a slip, in address order. -/
def Service.bytesFrom (v : Service) (i n : Nat) : List Byte := ((v.words.drop i).take n).flatMap wordBytes

/-- The numbers of the classes (R35). -/
def StoryClass.number : StoryClass → Nat
  | .flash => 0
  | .urgent => 1
  | .routine => 2

def classOf : Nat → StoryClass
  | 0 => .flash
  | 1 => .urgent
  | _ => .routine

/-- The decimal digit of a number below 10. -/
def digit (n : Nat) : Byte := BitVec.ofNat 8 (0x30 + n % 10)

/-- The decimal digits of a number below 10,000, without leading zeros. -/
def decimal (n : Nat) : List Byte :=
  if n < 10 then [digit n]
  else if n < 100 then [digit (n / 10), digit n]
  else if n < 1000 then [digit (n / 100), digit (n / 10), digit n]
  else [digit (n / 1000), digit (n / 100), digit (n / 10), digit n]

/-- A number right-justified in `w` columns with leading spaces (R107). -/
def rightJust (w n : Nat) : List Byte :=
  List.replicate (w - (decimal n).length) 0x20 ++ decimal n

def spaces (n : Nat) : List Byte := List.replicate n 0x20

end Sys2Proof.Machine
end

