-- ==== Sys2Proof/Machine/Flags.lean ====
section
/-! DEFINITION. Every check, sum and status code the manual computes: the header check of the screen links (R114, R115), the row sum (R113),
the check of the set link (R166), result codes (Table 3-3), fault code numbers (Table 11-2) and coded status bytes. -/

namespace Sys2Proof.Machine

/-! ### The header check (R114, R115) -/

/-- R114: the number of each data bit, the 5-bit numbers with at least two 1-bits in ascending order. -/
def dataNumbers : List Nat :=
  [3, 5, 6, 7, 9, 10, 11, 12, 13, 14, 15, 17, 18, 19, 20, 21, 22, 23, 24, 25, 26, 27, 28, 29]

/-- The exclusive-or of the numbers of the data bits that are set: check bits 0 to 4. -/
def checkLow (data : BitVec 24) : Nat :=
  (dataNumbers.zipIdx.map fun p => if data.getLsbD p.2 then p.1 else 0).foldl Nat.xor 0

/-- The number of 1-bits among the low `n` bits of a number. -/
def ones : Nat → Nat → Nat
  | 0, _ => 0
  | n + 1, v => v % 2 + ones n (v / 2)

/-- R114: check bits 0 to 5 of the 24 data bits. -/
def headerCheck (data : BitVec 24) : Nat :=
  checkLow data + 32 * ((ones 24 data.toNat + ones 5 (checkLow data)) % 2)

/-- A header of three bytes with its check (Table 7-1). -/
def makeHeader (b0 b1 b2 : Nat) : BitVec 32 :=
  let data := BitVec.ofNat 24 (b0 % 256 + 256 * (b1 % 256) + 65536 * (b2 % 256))
  BitVec.ofNat 32 (data.toNat + 16777216 * headerCheck data)

/-- How an upstream header is taken (R115). -/
inductive HeaderTaken where
  | used (data : BitVec 24) (corrected : Bool)
  | discarded
deriving DecidableEq, Repr

/-- R115: the syndrome and parity of a received header decide. -/
def checkHeader (h : BitVec 32) : HeaderTaken :=
  let data := BitVec.ofNat 24 h.toNat
  let check := h.toNat / 16777216 % 64
  let s := (checkLow data).xor (check % 32)
  let p := (ones 24 data.toNat + ones 6 check) % 2
  if h.toNat / 16777216 / 64 ≠ 0 then .discarded
  else if s = 0 then .used data (p == 1)
  else if p = 0 then .discarded
  else if s = 1 ∨ s = 2 ∨ s = 4 ∨ s = 8 ∨ s = 16 then .used data true
  else match dataNumbers.findIdx? (· == s) with
    | some i => .used (data ^^^ BitVec.ofNat 24 (2 ^ i)) true
    | none => .discarded

/-- The fields of header bytes 0 to 2 (Table 7-1). -/
def headerKind (data : BitVec 24) : Nat := data.toNat % 32
def headerDrop (data : BitVec 24) : Nat := data.toNat / 32 % 8
def headerByte1 (data : BitVec 24) : Nat := data.toNat / 256 % 256
def headerByte2 (data : BitVec 24) : Nat := data.toNat / 65536 % 256

/-- The header's four bytes in frame order. -/
def headerBytes (h : BitVec 32) : List Byte := leBytes 4 h.toNat

/-- R113: the sum of a ROW frame, modulo 65,536. -/
def rowSum (chars : List Byte) : Nat := (chars.map BitVec.toNat).foldl (· + ·) 0 % 65536

/-- The bytes of a downstream frame (Table 7-1, R113). -/
def DownFrame.bytes : DownFrame → List Byte
  | .row d r chars => headerBytes (makeHeader (0x01 + 32 * d) r 64) ++ chars ++ leBytes 2 (rowSum chars)
  | .blank d r => headerBytes (makeHeader (0x02 + 32 * d) r 0)
  | .helloReq d => headerBytes (makeHeader (0x03 + 32 * d) 0 0)
  | .sleep d => headerBytes (makeHeader (0x04 + 32 * d) 0 0)

/-! ### The set link's check (R166) -/

/-- One data bit entering the 16-bit register. -/
def crcBit (reg : Nat) (bit : Nat) : Nat :=
  let out := (reg / 32768 + bit) % 2
  if out = 1 then (reg * 2 % 65536).xor 0x1021 else reg * 2 % 65536

/-- The low `n` bits of a byte entering the register, most significant first. -/
def crcBits : Nat → Nat → Nat → Nat
  | 0, reg, _ => reg
  | n + 1, reg, b => crcBits n (crcBit reg (b / 2 ^ n % 2)) b

/-- The check over bytes, from a register of FFFFh. -/
def setCheck (bytes : List Byte) : Nat := bytes.foldl (fun reg b => crcBits 8 reg b.toNat) 0xFFFF

/-- The check as a frame carries it: all 16 bits inverted in a spoiled frame. -/
def sentCheck (spoilt : Bool) (bytes : List Byte) : Nat :=
  if spoilt then 0xFFFF - setCheck bytes else setCheck bytes

/-- A frame of a kind and payload: sync, kind, length, payload, check (chapter 10). -/
def setFrameBytes (kind : Nat) (payload : List Byte) (spoilt : Bool) : List Byte :=
  let body := BitVec.ofNat 8 kind :: (leBytes 2 payload.length ++ payload)
  0xA5 :: (body ++ leBytes 2 (sentCheck spoilt body))

def CancelReason.number : CancelReason → Nat
  | .withdrawn => 1
  | .lockLimit => 2
  | .readFail => 3
  | .underflow => 4

/-- The kind code and payload of a frame to the typesetter (Table 10-1). -/
def SetFrame.bytes : SetFrame → List Byte
  | .offer code => setFrameBytes 0x01 (leBytes 1 code) false
  | .pageOpen e p n t => setFrameBytes 0x02 (leBytes 1 e ++ leBytes 1 p ++ leBytes 1 n ++ leBytes 4 t) false
  | .place r t => setFrameBytes 0x03
      (leBytes 1 r.index ++ leBytes 2 r.story ++ leBytes 1 r.column ++ leBytes 1 r.span ++ leBytes 2 r.size ++ leBytes 1 r.leading
        ++ leBytes 1 r.indent ++ leBytes 2 r.measure ++ leBytes 2 r.hole ++ leBytes 2 r.linesSent ++ leBytes 1 r.cut.toNat ++ leBytes 3 t) false
  | .text n payload spoilt =>
      let sent := payload.map Prod.snd
      setFrameBytes 0x04 (sent ++ List.replicate (n - sent.length) 0) spoilt
  | .placeEnd i => setFrameBytes 0x05 (leBytes 1 i) false
  | .pageClose e p => setFrameBytes 0x06 (leBytes 1 e ++ leBytes 1 p) false
  | .pageCancel e p r => setFrameBytes 0x07 (leBytes 1 e ++ leBytes 1 p ++ leBytes 1 r.number) false

/-! ### Result codes and coded status -/

/-- Table 3-3. -/
inductive Code where
  | done | badunit | badkind | badarg | nopos | notyours | nopriv | nostory | notholder
  | state | full | noblocks | toolong | locked | placed | guarded | empty | busy
  | ignored | narrow | nospec | overset | closed | qfull | abandoned
deriving DecidableEq, Repr

def Code.number : Code → Nat
  | .done => 0x10 | .badunit => 0x11 | .badkind => 0x12 | .badarg => 0x13 | .nopos => 0x14 | .notyours => 0x15
  | .nopriv => 0x16 | .nostory => 0x17 | .notholder => 0x18 | .state => 0x19 | .full => 0x1A | .noblocks => 0x1B
  | .toolong => 0x1C | .locked => 0x1D | .placed => 0x1E | .guarded => 0x1F | .empty => 0x20 | .busy => 0x21
  | .ignored => 0x22 | .narrow => 0x23 | .nospec => 0x24 | .overset => 0x25 | .closed => 0x26 | .qfull => 0x27
  | .abandoned => 0x28

/-- What an owning unit gives the Slip Unit: the code, the detail bytes 1 to 3, and words 5 and 6 (R42). -/
structure Result where
  code : Code
  d1   : Nat := 0
  d2   : Nat := 0
  d3   : Nat := 0
  w5   : Word := 0
  w6   : Word := 0
deriving DecidableEq, Repr

/-- Word 7 of a result (R42). -/
def Result.word7 (r : Result) : Word := packBytes r.code.number r.d1 r.d2 r.d3

def Reason.number : Reason → Nat
  | .none => 0 | .beyond => 1 | .ringowner => 2 | .unowned => 3 | .notholder => 4 | .wrongagent => 5

/-- Table 11-2: the numbers of the STORE codes (R12). -/
def passRead : Nat := 1
def mergeRead : Nat := 2
def scrubRead : Nat := 3
def slipRead : Nat := 4
def rowRead : Nat := 5
def fitRead : Nat := 6
def setRead : Nat := 7

/-- Table 11-2: SCREEN, WIRE and SET codes. -/
def wakeFail : Nat := 1
def dropFaulty : Nat := 2
def badHello : Nat := 3
def wireSpoiled : Nat := 1
def wireOverflow : Nat := 2
def wireNoStory : Nat := 3
def linkFail : Nat := 1
def fallBack : Nat := 2

/-- R49: the flags of a bank in one byte. -/
def Bank.flags (b : Bank) : Nat :=
  b.valid.toNat + 2 * b.overflow.toNat + 4 * b.uncorrected.toNat + 8 * b.locationValid.toNat

def FitState.number : FitState → Nat
  | .none => 0 | .queued => 1 | .counting => 2 | .bracketed => 3 | .current => 4 | .error => 5

def BracketEnd.number : BracketEnd → Nat
  | .none => 0 | .full => 1 | .time => 2 | .broken => 3

def HoleKind.number : HoleKind → Nat
  | .nohole => 0 | .fits => 1 | .over => 2 | .short => 3

def Custody.number : Custody → Nat
  | .free => 0 | .intake _ => 1 | .basket _ => 2 | .held _ => 3

/-- R35: the wire line, desk or holder, 0 when FREE. -/
def Custody.place : Custody → Nat
  | .free => 0 | .intake l => l | .basket d => d | .held p => p

def LinkState.number : LinkState → Nat
  | .off => 0 | .waking => 1 | .awake => 2 | .sleeping => 3

def DropState.number : DropState → Nat
  | .absent => 0 | .present => 1 | .faulty => 2

def TakeState.number : TakeState → Nat
  | .idle => 0 | .header => 1 | .body => 2 | .truncating => 3 | .discarding => 4 | .ending => 5

def PageState.number : PageState → Nat
  | .making => 1 | .queued => 2 | .sending => 3 | .set => 4 | .stale => 5 | .returned => 6 | .failed => 7

def AttemptEnd.number : AttemptEnd → Nat
  | .none => 0 | .set => 1 | .refuse => 2 | .timeout => 3 | .underflow => 4 | .lockLimit => 5 | .readFail => 6 | .withdrawn => 7
  | .returned => 8 | .restart => 9

def PlaceMode.number : PlaceMode → Nat
  | .refuse => 0 | .cut => 1

def SetState.number : SetState → Nat
  | .down => 0 | .starting => 1 | .ready => 2 | .sending => 3 | .awaiting => 4

end Sys2Proof.Machine
end

