-- ==== Sys2Proof/Machine/Ops.lean ====
section
/-! DEFINITION. The shared operations: reading and writing one entry of a table, notices in flight, the store with its decode conditions and
own reads, custody and blocks at the Directory, marking rows, and answering the slip in service. -/

namespace Sys2Proof.Machine

/-! ### Entries -/

def State.active (s : State) : Bool := s.setup.partState == .active

def State.story (s : State) (n : Nat) : Story := tget (fun _ => {}) s.dir.stories n
def State.putStory (s : State) (n : Nat) (v : Story) : State :=
  s.withDir { s.dir with stories := tset (fun _ => {}) s.dir.stories n v }

def State.blockEntry (s : State) (b : Nat) : BlockEntry := tget (fun _ => {}) s.dir.blockMap b
def State.putBlock (s : State) (b : Nat) (v : BlockEntry) : State :=
  s.withDir { s.dir with blockMap := tset (fun _ => {}) s.dir.blockMap b v }

def State.position (s : State) (p : Nat) : Position := tget (fun _ => {}) s.dir.positions p
def State.putPosition (s : State) (p : Nat) (v : Position) : State :=
  s.withDir { s.dir with positions := tset (fun _ => {}) s.dir.positions p v }

/-- R29: the name DESK00 to DESK15 with MAKEUP clear. -/
def deskDefault (d : Nat) : Desk := ⟨ascii "DESK" ++ [digit (d / 10), digit d], false⟩

def State.deskEntry (s : State) (d : Nat) : Desk := tget deskDefault s.dir.desks d
def State.putDeskEntry (s : State) (d : Nat) (v : Desk) : State :=
  s.withDir { s.dir with desks := tset deskDefault s.dir.desks d v }

def State.basketOf (s : State) (d : Nat) : List Nat := tget (fun _ => []) s.desk.baskets d
def State.putBasket (s : State) (d : Nat) (v : List Nat) : State :=
  s.withDesk { s.desk with baskets := tset (fun _ => []) s.desk.baskets d v }

def State.bracketAt (s : State) (k : Nat) : Bracket := tget (fun _ => {}) s.desk.brackets k
def State.putBracket (s : State) (k : Nat) (v : Bracket) : State :=
  s.withDesk { s.desk with brackets := tset (fun _ => {}) s.desk.brackets k v }

def State.viewOf (s : State) (p : Nat) : View := tget (fun _ => {}) s.screen.views p
def State.putView (s : State) (p : Nat) (v : View) : State :=
  s.withScreen { s.screen with views := tset (fun _ => {}) s.screen.views p v }

def State.dirtyMap (s : State) (p : Nat) : BitVec 24 := tget (fun _ => 0) s.screen.dirty p
def State.putDirty (s : State) (p : Nat) (v : BitVec 24) : State :=
  s.withScreen { s.screen with dirty := tset (fun _ => 0) s.screen.dirty p v }

def State.link (s : State) (k : Nat) : Link := tget (fun _ => {}) s.links.table k
def State.putLink (s : State) (k : Nat) (v : Link) : State :=
  s.withLinks { s.links with table := tset (fun _ => {}) s.links.table k v }

def Link.drop (l : Link) (d : Nat) : Drop := tget (fun _ => {}) l.drops d
def Link.putDrop (l : Link) (d : Nat) (v : Drop) : Link := { l with drops := tset (fun _ => {}) l.drops d v }

def State.line (s : State) (k : Nat) : Line := tget (fun _ => {}) s.intake.lines k
def State.putLine (s : State) (k : Nat) (v : Line) : State :=
  s.withIntake { s.intake with lines := tset (fun _ => {}) s.intake.lines k v }

def State.editionOf (s : State) (e : Nat) : Edition := tget (fun _ => {}) s.page.editions e
def State.putEdition (s : State) (e : Nat) (v : Edition) : State :=
  s.withPage { s.page with editions := tset (fun _ => {}) s.page.editions e v }

def State.pageAt (s : State) (k : Nat) : Page := tget (fun _ => {}) s.page.pages k
def State.putPage (s : State) (k : Nat) (v : Page) : State :=
  s.withPage { s.page with pages := tset (fun _ => {}) s.page.pages k v }

def Page.placement (p : Page) (i : Nat) : Placement := tget (fun _ => {}) p.placements i
def Page.putPlacement (p : Page) (i : Nat) (v : Placement) : Page :=
  { p with placements := tset (fun _ => {}) p.placements i v }

def State.refusalOf (s : State) (a : Nat) : Refused := tget (fun _ => {}) s.path.refusals a
def State.putRefusal (s : State) (a : Nat) (v : Refused) : State :=
  s.withPath { s.path with refusals := tset (fun _ => {}) s.path.refusals a v }

def State.pendingOf (s : State) (a : Nat) : List Nat := tget (fun _ => []) s.slip.pendingLists a
def State.putPending (s : State) (a : Nat) (v : List Nat) : State :=
  s.withSlip { s.slip with pendingLists := tset (fun _ => []) s.slip.pendingLists a v }

/-- R75: the width of an entry at power-on. -/
def widthDefault (k : Nat) : Nat := if k % 96 = 0 then 5 else 9

/-- The width of a code 20h to 7Fh in a font (R75). -/
def State.width (s : State) (font code : Nat) : Nat := tget widthDefault s.fit.widths (font * 96 + (code - 0x20))

def State.bankOf (s : State) : BankName → Bank
  | .store => s.fault.store
  | .screen => s.fault.screen
  | .wire => s.fault.wire
  | .set => s.fault.set

def State.putBank (s : State) (n : BankName) (b : Bank) : State :=
  match n with
  | .store => s.withFault { s.fault with store := b }
  | .screen => s.withFault { s.fault with screen := b }
  | .wire => s.withFault { s.fault with wire := b }
  | .set => s.withFault { s.fault with set := b }

/-! ### Time (R45) -/

/-- R45: the time passed since a stored time-of-day. -/
def State.since (s : State) (stored : Nat) : Nat :=
  if stored ≤ s.clock.tod then s.clock.tod - stored else s.clock.tod + Config.secondsPerDay - stored

/-! ### Notices in flight (log 9) -/

def State.send (s : State) (n : Notice) : State := s.withNotices (s.notices ++ [n])

def State.sendAll (s : State) (l : List Notice) : State := s.withNotices (s.notices ++ l)

/-- The oldest notice that `f` answers, and the others. -/
def pullFirst {α : Type} (f : Notice → Option α) : List Notice → Option (α × List Notice)
  | [] => none
  | n :: r => match f n with
    | some a => some (a, r)
    | none => (pullFirst f r).map fun p => (p.1, n :: p.2)

/-- Take the oldest notice that `f` answers, if there is one: it leaves the list, and `k` handles it. -/
def State.takeNotice {α : Type} (s : State) (f : Notice → Option α) (k : α → State → State) : State :=
  match pullFirst f s.notices with
  | none => s
  | some (a, r) => k a (s.withNotices r)

/-- The story a notice to a unit names, none for notices that name no story (log 10). -/
def Notice.storyNamed : Notice → Option Nat
  | .deskWrite w => some w.story
  | .fitWrite w => some w.story
  | .pageWrite w => some w.story
  | .pageLength n _ => some n
  | .screenWrite w => some w.story
  | .screenLine n _ => some n
  | .fitLength n _ => some n
  | .screenLength n _ => some n
  | .screenFit n => some n
  | .pageFit n => some n
  | .screenOpening n => some n
  | .fitOpening n => some n
  | .pageOpening n => some n
  | .screenEnding n _ => some n
  | .fitEnding n _ => some n
  | .pageEnding n _ => some n
  | .lock n => some n
  | .screenPlacement n _ => some n
  | .fitPlacement n _ => some n
  | .mark n => some n
  | .retryReport n => some n
  | _ => none

/-- R87: a notice that tells the Fit Unit of a write or of a change to a story. -/
def Notice.tellsChange (n : Nat) : Notice → Bool
  | .fitWrite w => w.story == n
  | .fitLength k _ => k == n
  | .fitPlacement k _ => k == n
  | _ => false

/-- R87: a write or a change to the story is on its way to the Fit Unit, which has still to take it. -/
def State.changeComing (s : State) (n : Nat) : Bool := s.notices.any (Notice.tellsChange n)

/-- The notices in flight about a story lapse when it is freed (log 10). -/
def State.dropNotices (s : State) (story : Nat) : State :=
  s.withNotices (s.notices.filter fun n => n.storyNamed ≠ some story)

/-! ### Fault records (R12, R126, R176, Table 8-1) -/

/-- A record sent to a bank, with its location. -/
def State.report (s : State) (bank : BankName) (code location : Nat) (uncorrected : Bool) : State :=
  s.send (.fault ⟨bank, code, location, true, uncorrected⟩)

/-! ### The store (section 1.5) -/

def State.byte (s : State) (a : Nat) : Byte := tget unwritten s.mem a
def State.putByte (s : State) (a : Nat) (b : Byte) : State := s.withMem (tset unwritten s.mem a b)

/-- The condition in which a word decodes. -/
def State.ecc (s : State) (a : Nat) : Ecc := tget (fun _ => .clean) s.flaws a
def State.putEcc (s : State) (a : Nat) (e : Ecc) : State := s.withFlaws (tset (fun _ => .clean) s.flaws a e)

/-- The data of the word at a word address, byte 0 lowest (log 5); trusted unless the word is UNCORRECTED. -/
def State.wordAt (s : State) (a : Nat) : Word :=
  packBytes (s.byte a).toNat (s.byte (a + 1)).toNat (s.byte (a + 2)).toNat (s.byte (a + 3)).toNat

/-- The bytes written from an address upwards. -/
def State.putBytes (s : State) (a : Nat) : List Byte → State
  | [] => s
  | b :: r => (s.putByte a b).putBytes (a + 1) r

/-- A word written with fresh check bits (section 1.5). -/
def State.putWord (s : State) (a : Nat) (w : Word) : State := (s.putBytes a (wordBytes w)).putEcc a .clean

/-- The words of bytes written with fresh check bits, `n` words from an address. -/
def State.freshWords (s : State) (a : Nat) : Nat → State
  | 0 => s
  | n + 1 => (s.putEcc a .clean).freshWords (a + 4) n

/-- An own write of whole words (R4: not classified). -/
def State.ownWrite (s : State) (a : Nat) (l : List Byte) : State := (s.putBytes a l).freshWords a (l.length / 4)

/-- R11: an address offered to the scrub queue. -/
def State.offerScrub (s : State) (a : Nat) : State :=
  if a ∈ s.path.scrubQueue ∨ Config.scrubSize ≤ s.path.scrubQueue.length then s
  else s.withPath { s.path with scrubQueue := s.path.scrubQueue ++ [a] }

/-- R9, R12: one word read for the part's own work: its data, none with an uncorrectable mark; records and the scrub offer go out. -/
def State.ownReadWord (s : State) (code a : Nat) : State × Option Word :=
  match s.ecc a with
  | .clean => (s, some (s.wordAt a))
  | .corrected => ((s.report .store code a false).offerScrub a, some (s.wordAt a))
  | .uncorrected => (s.report .store code a true, none)

/-- R9: `n` words read from an address, in word order. -/
def State.ownRead (s : State) (code a : Nat) : Nat → State × List (Option Word)
  | 0 => (s, [])
  | n + 1 =>
    let r := s.ownReadWord code a
    let t := r.1.ownRead code (a + 4) n
    (t.1, r.2 :: t.2)

/-- The bytes of words that all decoded. -/
def goodBytes (l : List (Option Word)) : List Byte := l.flatMap fun w => wordBytes (w.getD 0)

/-- The end of the grant in progress: the port is free. -/
def State.freePort (s : State) : State := s.withPath { s.path with port := none, orphan := false }

/-- R8: the story of the word a locked pair is open on. -/
def State.pairStory (s : State) : Option Nat :=
  match s.path.pair with
  | some p => match p.verdict with
    | .accepted n _ => some n
    | _ => none
  | none => none

/-! ### Stories, blocks and custody (chapter 2) -/

/-- R17: the number names a story. -/
def State.names (s : State) (n : Nat) : Bool := 1 ≤ n && n ≤ Config.storyCount && (s.story n).custody != .free

/-- The filled length in blocks (chapter 2): the filling index when present, else the chain length. -/
def Story.filled (st : Story) : Nat := st.filling.getD st.chain.length

/-- The address of the `k`-th copy line of a run of blocks (section 2.4). -/
def chainAddr (blocks : List Nat) (k : Nat) : Nat :=
  blocks.getD (k / Config.linesPerBlock) 0 * Config.blockBytes + k % Config.linesPerBlock * Config.lineBytes

/-- R20: the blocks of the Copy Area; none in PASSIVE. -/
def State.copyBlocks (s : State) : List Nat :=
  if s.active then List.range' s.path.regions.copyFirst s.path.regions.copyCount else []

/-- R20: the free set, lowest first. -/
def State.freeSet (s : State) : List Nat := s.copyBlocks.filter fun b => (s.blockEntry b).owner == 0

/-- R20: the free count. -/
def State.freeCount (s : State) : Nat := s.freeSet.length

/-- R21: the `n` lowest free blocks, or none if there are fewer. -/
def State.allocate (s : State) (n : Nat) : Option (List Nat) :=
  if (s.freeSet.take n).length = n then some (s.freeSet.take n) else none

/-- R21: the lowest FREE entry of the Story Table. -/
def State.freeEntry (s : State) : Option Nat :=
  (List.range' 1 Config.storyCount).find? fun n => (s.story n).custody == .free

/-- R20: Block Map entries of blocks joining a story from a chain index on. -/
def State.ownBlocks (s : State) (story : Nat) : Nat → List Nat → State
  | _, [] => s
  | i, b :: r => (s.putBlock b ⟨story, i⟩).ownBlocks story (i + 1) r

/-- R20: Block Map entries of blocks returned to the free set. -/
def State.freeBlocks (s : State) : List Nat → State
  | [] => s
  | b :: r => (s.putBlock b {}).freeBlocks r

/-- R21, R22: blocks joining the end of a story's chain as filling. -/
def State.joinFilling (s : State) (n : Nat) (blocks : List Nat) : State :=
  let st := s.story n
  (s.putStory n { st with chain := st.chain ++ blocks, filling := some (st.filling.getD st.chain.length) }).ownBlocks n st.chain.length blocks

/-- R52: a story inserted after the last story of its own and of every higher class. -/
def State.basketInsert (s : State) (l : List Nat) (n : Nat) : List Nat :=
  let rank := fun k => (s.story k).cls.number
  l.takeWhile (fun k => rank k ≤ rank n) ++ n :: l.dropWhile (fun k => rank k ≤ rank n)

/-- R18, R19, R52: a story leaves its hand or basket, with the notice of that hand or basket. -/
def State.leave (s : State) (n : Nat) : State :=
  match (s.story n).custody with
  | .held p => (s.putPosition p { s.position p with hand := (s.position p).hand.filter (· ≠ n) }).send (.hand p)
  | .basket d => (s.putBasket d ((s.basketOf d).filter (· ≠ n))).send (.basket d)
  | _ => s

/-- R18: a story enters a hand at its tail, take time now. -/
def State.enterHand (s : State) (n p : Nat) : State :=
  let s := s.putStory n { s.story n with custody := .held p, takeTime := s.clock.tod }
  (s.putPosition p { s.position p with hand := (s.position p).hand ++ [n] }).send (.hand p)

/-- R18, R52: a story enters a basket by its class, entry time now. -/
def State.enterBasket (s : State) (n d : Nat) : State :=
  let s := s.putStory n { s.story n with custody := .basket d, entryTime := s.clock.tod }
  (s.putBasket d (s.basketInsert (s.basketOf d) n)).send (.basket d)

/-- R23: a story is freed as one event. -/
def State.freeStory (s : State) (n : Nat) : State :=
  let blocks := (s.story n).chain
  (((s.leave n).freeBlocks blocks).putStory n {}).dropNotices n

/-! ### Setting locks (R161) -/

/-- The page SENDING, at most one (R161). -/
def State.sendingPage (s : State) : Option Nat := s.page.queue.find? fun k => (s.pageAt k).state == .sending

def Placement.locked (p : Placement) : Bool := (p.attempt.map (·.locked)).getD false

/-- The Page Unit reports a story setting-locked. -/
def State.locked (s : State) (n : Nat) : Bool :=
  match s.sendingPage with
  | none => false
  | some k => (s.pageAt k).placements.any fun e => e.2.story == n && e.2.locked

/-! ### Fit records (R74) -/

/-- R74: the fit notice of a story, to the Screen Unit and, for a placed story, to the Page Unit. -/
def State.fitNotice (s : State) (n : Nat) : State :=
  s.sendAll (.screenFit n :: (if (s.story n).placements.isEmpty then [] else [.pageFit n]))

/-- R74: a story's fit record is written; a change of state or of a result sends the fit notice. -/
def State.putFit (s : State) (n : Nat) (f : FitRecord) : State :=
  let old := (s.story n).fit
  let s := s.putStory n { s.story n with fit := f }
  if f.state = old.state ∧ f.lines = old.lines ∧ f.sat = old.sat ∧ f.depth = old.depth ∧ f.outcomes = old.outcomes then s
  else s.fitNotice n

/-! ### Rows (R101) -/

def rowBit (r : Nat) : BitVec 24 := BitVec.ofNat 24 (2 ^ r)

/-- R101: a row of a position is marked; a clean row of an in-use position becomes dirty and its link gets a dirty notice. -/
def State.markRow (s : State) (p r : Nat) : State :=
  if (s.position p).inUse && !(s.dirtyMap p).getLsbD r then
    (s.putDirty p (s.dirtyMap p ||| rowBit r)).send (.dirty (s.position p).link (s.position p).drop)
  else s

def State.markRows (s : State) (p : Nat) (rows : List Nat) : State := rows.foldl (fun s r => s.markRow p r) s

/-- The rows of a story: text rows and fit row. -/
def storyRows : List Nat := List.range 23
def allRows : List Nat := List.range 24
def fitRow : Nat := 22
def basketRow : Nat := 23

/-- R96: the positions whose views show a story. -/
def State.viewersOf (s : State) (n : Nat) : List Nat := (s.screen.views.filter fun e => e.2.story == some n).map Prod.fst

/-- The rows marked on every view of a story. -/
def State.markViews (s : State) (n : Nat) (rows : List Nat) : State :=
  (s.viewersOf n).foldl (fun s p => s.markRows p rows) s

/-- The in-use position on a drop of a link. -/
def State.positionOn (s : State) (link drop : Nat) : Option Nat :=
  (s.dir.positions.find? fun e => e.2.inUse && e.2.link == link && e.2.drop == drop).map Prod.fst

/-- R105: rows marked for the in-use position on a drop, nothing when there is none. -/
def State.markDrop (s : State) (link drop : Nat) (rows : List Nat) : State :=
  match s.positionOn link drop with
  | some p => s.markRows p rows
  | none => s

/-! ### The slip in service (chapter 3) -/

/-- The address of a slot. -/
def State.slotAddr (s : State) (agent slot : Nat) : Nat :=
  s.path.regions.slipBase * Config.blockBytes + agent * 512 + slot * 32

/-- R42: the slip in service is answered and its result request presented. -/
def State.reply (s : State) (v : Service) (r : Result) : State :=
  s.withSlip { s.slip with
    service := some { v with phase := .answered }
    request := some (.result (s.slotAddr v.agent v.slot) r.w5 r.w6 r.word7) }

/-- A kind's own step: `f` handles the slip in service if it has been handed over as that kind. -/
def State.serve (s : State) (k : SlipKind) (f : Service → State → State) : State :=
  match s.slip.service with
  | some v => if v.phase = .dispatched k then f v s else s
  | none => s

/-- R8, R55: as `serve`, but a slip whose story has an open locked pair is held until the pair closes. -/
def State.serveUnlocked (s : State) (k : SlipKind) (storyOf : Service → Nat) (f : Service → State → State) : State :=
  s.serve k fun v s =>
    if s.pairStory = some (storyOf v) then s.withSlip { s.slip with service := some { v with phase := .held k } }
    else f v s

/-- R44: the agent is privileged. -/
def State.privileged (s : State) (agent : Nat) : Bool := s.slip.privMask.getLsbD agent

end Sys2Proof.Machine
end

