-- ==== Sys2Proof/Machine/Baskets.lean ====
section
/-! DEFINITION. What other units ask of the Desk Unit: the summary of a basket (R53) and the ending of a bracket (R70). -/

namespace Sys2Proof.Machine

/-- R53: the number of stories in a basket. -/
def State.basketCount (s : State) (d : Nat) : Nat := (s.basketOf d).length

/-- R53: the number of FLASH stories in it. -/
def State.flashCount (s : State) (d : Nat) : Nat := ((s.basketOf d).filter fun n => (s.story n).cls == .flash).length

/-- R53: the greatest age among its stories, 0 when the basket is empty. -/
def State.oldestAge (s : State) (d : Nat) : Nat :=
  ((s.basketOf d).map fun n => s.since (s.story n).entryTime).foldl max 0

/-- R70: a bracket entry is freed and its story's bracket reference and last outcome are set, without notices (R62). -/
def State.dropBracket (s : State) (k : Nat) (e : BracketEnd) : State :=
  let n := (s.bracketAt k).story
  (s.putBracket k {}).putStory n { s.story n with bracketRef := none, lastBracket := e }

/-- R70: a bracket ends with an outcome, with its ending notices. -/
def State.endBracket (s : State) (k : Nat) (e : BracketEnd) : State :=
  let n := (s.bracketAt k).story
  (s.dropBracket k e).sendAll [.screenEnding n e, .fitEnding n e, .pageEnding n e]

/-- R72: an open bracket on a story is broken. -/
def State.breakBracket (s : State) (n : Nat) : State :=
  match (s.story n).bracketRef with
  | some k => s.endBracket k .broken
  | none => s

end Sys2Proof.Machine
end

