-- ==== Sys2Proof/Machine/FitUnit.lean ====
section
/-! DEFINITION. The Fit Unit (chapter 5): width entries, SPEC, UNSPEC and FITSTAT, the line count, the recount queue, and counts. -/

namespace Sys2Proof.Machine

/-! ### The line count (section 5.4) -/

/-- R82 to R84: the current line closes: L rises or SAT is set, and every budget falls by 1. -/
def Walk.close (w : Walk) (nextFirst : Bool) : Walk :=
  { w with
    lines := if Config.lineCountMax ≤ w.lines then w.lines else w.lines + 1
    sat := w.sat || decide (Config.lineCountMax ≤ w.lines)
    budgets := w.budgets.map fun b => { b with left := b.left - 1 }
    holds := false, width := 0, sep := none, first := nextFirst }

/-- R84: a line begins at a byte: each budget at 0 with no cut offset takes it. -/
def Walk.beginLine (w : Walk) (offset : Nat) : Walk :=
  { w with budgets := w.budgets.map fun b => if b.left = 0 ∧ b.cut = none then { b with cut := some offset } else b }

/-- R80: the start width of the current line. -/
def Walk.start (w : Walk) (indent : Nat) : Nat := if w.first then indent else 0

/-- The width of a run of characters. -/
def runWidth (chars : List (Nat × Nat)) : Nat := (chars.map Prod.snd).sum

/-- R81: how many of the characters stay at or below the room left. -/
def fitting : Nat → List (Nat × Nat) → Nat
  | _, [] => 0
  | room, c :: r => if c.2 ≤ room then fitting (room - c.2) r + 1 else 0

/-- R80, R81: a word placed on the current line, on later lines, or split; a word of one character that was set past mu leaves no remainder.
The fuel covers one closing for each character and one more. -/
def Walk.place (mu indent : Nat) : Nat → Walk → List (Nat × Nat) → Walk
  | 0, w, _ => w
  | fuel + 1, w, chars =>
    if w.sat ∨ chars = [] then w
    else if w.holds then
      let width := w.width + w.sep.getD 0 + runWidth chars
      if width ≤ mu then { w with width := width, sep := none } else Walk.place mu indent fuel (w.close false) chars
    else
      let begun := w.beginLine ((chars.headD (0, 0)).1)
      let width := w.start indent + runWidth chars
      if width ≤ mu then { begun with holds := true, width := width, sep := none }
      else Walk.place mu indent fuel (begun.close false) (chars.drop (max 1 (fitting (mu - w.start indent) chars)))

/-- R79: the word read so far, if there is one, ends and is placed. -/
def Walk.endWord (mu indent : Nat) (w : Walk) : Walk :=
  if w.word = [] then w
  else Walk.place mu indent (w.word.length + 2) { w with word := [] } w.word.reverse

/-- R82: a paragraph end closes the current line; a line that holds no word begins at it. -/
def Walk.paragraph (w : Walk) : Walk :=
  if w.sat then w else (if w.holds then w else w.beginLine w.offset).close true

/-- R79: one byte of the text, with the width tables as `width`. Nothing is walked after SAT (R83). -/
def Walk.byte (mu indent : Nat) (width : Nat → Nat → Nat) (w : Walk) (b : Byte) : Walk :=
  let c := b.toNat
  if w.sat then w
  else
    let t :=
      if c = 0x01 then (w.endWord mu indent).paragraph
      else if 0x10 ≤ c ∧ c ≤ 0x13 then { w with font := c - 0x10 }
      else if c = 0x20 then
        let t := w.endWord mu indent
        { t with sep := some (t.sep.getD (width w.font 0x20)) }
      else if 0x21 ≤ c ∧ c ≤ 0x7F then { w with word := (w.offset, width w.font c) :: w.word }
      else w
    { t with offset := w.offset + 1 }

/-- R82: the end of the text: the last word is placed and a line that holds a word is counted. -/
def Walk.endText (mu indent : Nat) (w : Walk) : Walk :=
  let t := w.endWord mu indent
  if t.holds ∧ !t.sat then t.close false else t

/-- The start of a walk (R79), with its budgets. -/
def Walk.begin (sp : FitSpec) (budgets : List Budget) : Walk :=
  { offset := 0, font := sp.font, first := true, holds := false, width := 0, sep := none, word := [], lines := 0, sat := false, budgets }

/-- R85: the outcome of a placement. -/
def holeResult (l : Nat) (b : Budget) : HoleResult :=
  if l = b.lines then ⟨.fits, b.lines, 0, none⟩
  else if b.lines < l then ⟨.over, b.lines, l - b.lines, b.cut⟩
  else ⟨.short, b.lines, b.lines - l, none⟩

/-- R85: the outcomes of every captured placement. -/
def outcomesOf (l : Nat) (budgets : List Budget) : Table HoleResult :=
  budgets.foldl (fun t b => tset (fun _ => {}) t b.edition (holeResult l b)) []

/-! ### Fit states and the recount queue (section 5.5) -/

/-- The fit record of a story. -/
def State.fitOf (s : State) (n : Nat) : FitRecord := (s.story n).fit

/-- R86: a story joins the tail of the recount queue as QUEUED. -/
def State.enqueueFit (s : State) (n : Nat) (f : FitRecord) : State :=
  let s := s.putFit n { f with state := .queued }
  s.withFit { s.fit with queue := s.fit.queue ++ [n] }

/-- R87: a change to a story. A story with a spec and state NONE is one that a SPEC has just reached (R77). -/
def State.fitChange (s : State) (n : Nat) : State :=
  let f := s.fitOf n
  if f.spec = none then s
  else match f.state with
    | .none | .current | .bracketed | .error => s.enqueueFit n f
    | .queued => s
    | .counting => s.putFit n { f with changedCount := true }

/-- R75: a width change reaches every story, in ascending number. -/
def State.widthChanged (s : State) : State := (s.dir.stories.map Prod.fst).foldl (fun s n => s.fitChange n) s

/-! ### Counts (section 5.6) -/

/-- R89: the budget of a placement. -/
def State.budgetOf (s : State) (leading edition : Nat) (r : Nat × Nat) : Budget :=
  let h := ((s.pageAt r.1).placement r.2).hole / leading
  ⟨edition, h, h, none⟩

/-- R89: the budgets of every placement of a story. -/
def State.budgets (s : State) (n leading : Nat) : List Budget :=
  (s.story n).placements.filterMap fun e => e.2.map fun r => s.budgetOf leading e.1 r

/-- R91, R93: the count in progress ends and its story is given another count, or held for the ending of its bracket. -/
def State.discardCount (s : State) (n : Nat) : State :=
  let f := s.fitOf n
  if n ∈ s.fit.bracketed then s.putFit n { f with state := .bracketed, changedCount := false, changedBracket := true }
  else s.enqueueFit n { f with changedCount := false }

/-- R91: the results of a count replace those on record. -/
def State.storeCount (s : State) (c : Count) : State :=
  s.putFit c.story
    { s.fitOf c.story with
      state := if c.story ∈ s.fit.bracketed then .bracketed else .current
      lines := c.walk.lines, sat := c.walk.sat, depth := c.walk.lines * c.spec.leading
      outcomes := outcomesOf c.walk.lines c.walk.budgets }

/-- R91: the count in progress completes. R87, R90: a write or a change to the story that is still on its way is taken first and marks the count,
so that no text read from a block freed in the meantime is stored, and the story does not become CURRENT past a change (log 58). -/
def State.completeCount (s : State) (c : Count) : State :=
  let marked := (s.fitOf c.story).changedCount || s.changeComing c.story
  let s := (s.withFit { s.fit with count := none }).withNotices (s.notices.filter fun m => !m.tellsChange c.story)
  if marked then s.discardCount c.story else s.storeCount c

/-- R93: the count in progress ends on an uncorrectable word. -/
def State.failCount (s : State) (c : Count) : State :=
  let s := s.withFit { s.fit with count := none }
  let f := s.fitOf c.story
  if f.changedCount then s.discardCount c.story else s.putFit c.story { f with state := .error }

/-- R89: the head story's count begins. R90: with no line to read it completes at once, and what came before this event is in its capture. -/
def State.startCount (s : State) (n : Nat) : State :=
  let f := s.fitOf n
  let s := s.withFit { s.fit with queue := s.fit.queue.tail }
  match f.spec with
  | none => s
  | some sp =>
    let st := s.story n
    let s := s.putFit n { f with state := .counting, changedCount := false, changedBracket := false }
    let blocks := st.chain.take st.filled
    let c : Count := ⟨n, sp, sp.measure * 18 / sp.size, blocks, 0, Walk.begin sp (s.budgets n sp.leading)⟩
    if blocks = [] then s.storeCount c
    else s.withFit { s.fit with count := some c, request := some (chainAddr blocks 0) }

/-- COUNT_START (R89). -/
def execCountStart (s : State) : Host.Outcome State Fault Refusal :=
  .next (match s.active, s.fit.count, s.fit.queue with
    | true, none, n :: _ => s.startCount n
    | _, _, _ => s)

/-- R90: the count goes on over the bytes of a copy line. -/
def State.walkLine (s : State) (c : Count) (bytes : List Byte) : State :=
  let walk := bytes.foldl (Walk.byte c.mu c.spec.indent s.width) c.walk
  let c := { c with walk, done := c.done + 1 }
  if walk.sat then s.completeCount c
  else if c.done < Config.linesPerBlock * c.blocks.length then
    s.withFit { s.fit with count := some c, request := some (chainAddr c.blocks c.done) }
  else s.completeCount { c with walk := walk.endText c.mu c.spec.indent }

/-- FIT_READ_GRANT (R90, R93): a Fit read grant ends. -/
def execFitReadGrant (s : State) : Host.Outcome State Fault Refusal :=
  .next (match s.path.port with
    | some (.fit a) =>
      let r := s.freePort.ownRead fitRead a 16
      match s.path.orphan, r.1.fit.count with
      | false, some c => if r.2.any Option.isNone then r.1.failCount c else r.1.walkLine c (goodBytes r.2)
      | _, _ => r.1
    | _ => s)

/-- R92: the count in progress stops: its request is withdrawn and a grant in progress loses its requester. -/
def State.stopCount (s : State) : State :=
  let s := s.withFit { s.fit with count := none, request := none }
  match s.path.port with
  | some (.fit _) => s.withPath { s.path with orphan := true }
  | _ => s

/-- R62, R78: a story leaves the recount queue, and a count of it is abandoned. -/
def State.leaveFit (s : State) (n : Nat) : State :=
  let s := s.withFit { s.fit with queue := s.fit.queue.filter (· ≠ n) }
  match s.fit.count with
  | some c => if c.story = n then s.stopCount else s
  | none => s

/-! ### Notices to the Fit Unit -/

/-- FIT_WRITE_NOTICE (R69, R87, R88; a bracketed story with no spec: log 47). -/
def execFitWriteNotice (s : State) : Host.Outcome State Fault Refusal :=
  .next (s.takeNotice (fun | .fitWrite w => some w | _ => none) fun w s =>
    let f := s.fitOf w.story
    if w.story ∈ s.fit.bracketed then
      s.putFit w.story { f with changedBracket := true, changedCount := f.changedCount || f.state == .counting }
    else s.fitChange w.story)

/-- FIT_LENGTH_NOTICE (R22, R87). -/
def execFitLengthNotice (s : State) : Host.Outcome State Fault Refusal :=
  .next (s.takeNotice (fun | .fitLength n _ => some n | _ => none) fun n s => s.fitChange n)

/-- FIT_PLACEMENT_NOTICE (R87). -/
def execFitPlacementNotice (s : State) : Host.Outcome State Fault Refusal :=
  .next (s.takeNotice (fun | .fitPlacement n _ => some n | _ => none) fun n s => s.fitChange n)

/-- R88: a bracket's opening notice at the Fit Unit. -/
def State.fitOpened (s : State) (n : Nat) : State :=
  let s := s.withFit { s.fit with bracketed := s.fit.bracketed ++ [n] }
  if (s.fitOf n).state = .current then s.putFit n { s.fitOf n with state := .bracketed } else s

/-- R88: a bracket's ending notice at the Fit Unit. -/
def State.fitEnded (s : State) (n : Nat) : State :=
  let s := s.withFit { s.fit with bracketed := s.fit.bracketed.filter (· ≠ n) }
  let f := s.fitOf n
  let clear := { f with changedBracket := false }
  match f.state with
  | .bracketed => if f.changedBracket then s.enqueueFit n clear else s.putFit n { f with state := .current }
  | .error => if f.changedBracket then s.enqueueFit n clear else s
  | .queued | .counting | .none | .current => s.putFit n clear

/-- What an opening or ending notice to one unit says: the story, and the outcome of an ending. The two share one order (log 9). -/
def Notice.fitBracket : Notice → Option (Nat × Option BracketEnd)
  | .fitOpening n => some (n, none)
  | .fitEnding n e => some (n, some e)
  | _ => none

/-- The oldest bracket notice to a unit, taken if it is an opening, or if it is an ending. -/
def State.takeBracketNotice (s : State) (f : Notice → Option (Nat × Option BracketEnd)) (ending : Bool) (k : Nat → State → State) : State :=
  match pullFirst f s.notices with
  | none => s
  | some (p, r) => if p.2.isSome = ending then k p.1 (s.withNotices r) else s

/-- FIT_OPENING_NOTICE (R67, R88). -/
def execFitOpeningNotice (s : State) : Host.Outcome State Fault Refusal :=
  .next (s.takeBracketNotice Notice.fitBracket false fun n s => s.fitOpened n)

/-- FIT_ENDING_NOTICE (R70, R88). -/
def execFitEndingNotice (s : State) : Host.Outcome State Fault Refusal :=
  .next (s.takeBracketNotice Notice.fitBracket true fun n s => s.fitEnded n)

/-! ### The fit slips (section 5.3) -/

/-- R76: checks 1 to 4 of SPEC and UNSPEC. -/
def State.fitChecks (s : State) (v : Service) : Option Code :=
  let n := (v.word 1).toNat
  let st := s.story n
  if !s.names n then some .nostory
  else match st.custody with
    | .intake _ => some .state
    | _ =>
      if st.custody ≠ .held v.position ∧ !(s.deskEntry (s.position v.position).desk).makeup then some .notholder
      else if s.locked n then some .locked
      else none

/-- R76: the clamped values of a SPEC, with the indent before it is held to mu − 18. -/
def specOf (v : Service) : FitSpec :=
  let size := clamp 10 144 (halfAt (v.word 2) 0)
  ⟨size, clamp size 240 (halfAt (v.word 2) 1), clamp 36 2016 (halfAt (v.word 3) 0), clamp 0 72 (byteAt (v.word 3) 2), byteAt (v.word 3) 3⟩

/-- R76: the measure in units. -/
def FitSpec.mu (sp : FitSpec) : Nat := sp.measure * 18 / sp.size

/-- SPEC (R76, R77). -/
def execSpecSlip (s : State) : Host.Outcome State Fault Refusal :=
  .next (s.serve .spec fun v s =>
    match s.fitChecks v with
    | some c => s.reply v { code := c }
    | none =>
      let n := (v.word 1).toNat
      let raw := specOf v
      if 3 < raw.font then s.reply v { code := .badarg, d1 := 3 }
      else if raw.mu < 36 then s.reply v { code := .narrow, w5 := packHalves raw.mu 0 }
      else
        let sp := { raw with indent := min raw.indent (raw.mu - 18) }
        let s := (s.putFit n { s.fitOf n with spec := some sp }).fitChange n
        s.reply v { code := .done, w5 := packBytes (sp.mu % 256) (sp.mu / 256) sp.indent 0, w6 := packHalves sp.size sp.leading })

/-- UNSPEC (R78). -/
def execUnspecSlip (s : State) : Host.Outcome State Fault Refusal :=
  .next (s.serve .unspec fun v s =>
    match s.fitChecks v with
    | some c => s.reply v { code := c }
    | none =>
      let n := (v.word 1).toNat
      let f := s.fitOf n
      if f.spec = none then s.reply v { code := .ignored }
      else ((s.leaveFit n).putFit n {}).reply v { code := .done, w5 := packNat f.state.number })

/-- R94: the place of a story in the recount queue, counted from 1. -/
def State.queuePlace (s : State) (n : Nat) : Nat :=
  match s.fit.queue.findIdx? (· == n) with
  | some i => i + 1
  | none => 0

/-- R94: the answer to FITSTAT for a part. -/
def State.fitPart (s : State) (n part : Nat) : Result :=
  let f := s.fitOf n
  if part = 0 then
    { code := .done, d1 := f.state.number, d2 := f.sat.toNat + 2 * f.changedBracket.toNat + 4 * f.changedCount.toNat,
      w5 := packHalves f.lines (s.queuePlace n), w6 := packNat f.depth }
  else if part ≤ 4 then
    let h := tget (fun _ => {}) f.outcomes part
    { code := .done, d1 := h.kind.number, d2 := h.cut.isSome.toNat, w5 := packHalves h.lines h.amount, w6 := packHalves (h.cut.getD 0) 0 }
  else match f.spec with
    | none => { code := .done }
    | some sp =>
      { code := .done, d1 := 1, w5 := packHalves sp.size sp.leading,
        w6 := packBytes (sp.measure % 256) (sp.measure / 256) sp.indent sp.font }

/-- FITSTAT (R94; the order of its two checks: log 20). -/
def execFitstatSlip (s : State) : Host.Outcome State Fault Refusal :=
  .next (s.serve .fitstat fun v s =>
    let n := (v.word 1).toNat
    let part := byteAt (v.word 2) 0
    if !s.names n then s.reply v { code := .nostory }
    else if 5 < part then s.reply v { code := .badarg, d1 := 2 }
    else s.reply v (s.fitPart n part))

/-! ### Width entries and restarts -/

/-- R75: the data bytes of a width write: font, code and width, clamped; a width that differs is a change to every story with a spec. -/
def State.writeWidthEntry (s : State) (index : Byte) (data : List Byte) : State :=
  match data with
  | c :: w :: _ =>
    let font := clamp 0 3 index.toNat
    let code := clamp 0x20 0x7F c.toNat
    let width := clamp 1 36 w.toNat
    let old := s.width font code
    let s := s.withFit { s.fit with
      widths := tset widthDefault s.fit.widths (font * 96 + (code - 0x20)) width
      lastCode := tset (fun _ => 0x20) s.fit.lastCode font code }
    if old = width then s else s.widthChanged
  | _ => s

/-- WIDTH_ENTRY_WRITE (R75). -/
def execWidthEntryWrite (index : Byte) (data : List Byte) (s : State) : Host.Outcome State Fault Refusal :=
  .next (s.writeWidthEntry index data)

/-- R95: a warm restart ends the count in progress; its story joins the head of the queue. -/
def State.requeueCount (s : State) : State :=
  match s.fit.count with
  | none => s
  | some c =>
    let s := s.stopCount
    let s := s.putFit c.story { s.fitOf c.story with state := .queued, changedCount := false }
    s.withFit { s.fit with queue := c.story :: s.fit.queue }

/-- R95: the Fit Unit's emptying; the width tables and the codes last written are kept. -/
def State.clearFit (s : State) : State :=
  s.withFit { s.fit with queue := [], count := none, request := none, bracketed := [] }

end Sys2Proof.Machine
end

