-- ==== Sys2Proof/Machine/ScreenUnit.lean ====
section
/-! DEFINITION. The Screen Unit (chapter 6): views, the marking of rows, the content of each row, and fetch starts. -/

namespace Sys2Proof.Machine

/-! ### Views and their slips (section 6.2) -/

/-- R97: the greatest top line for a known length. -/
def maxTop (known : Nat) : Nat := known - 22

/-- R97: the known length of a story, its filled length in copy lines. -/
def State.knownLength (s : State) (n : Nat) : Nat := (s.story n).filled * Config.linesPerBlock

/-- Rows 0 to 22 of a position, which every change of its view marks. -/
def State.markView (s : State) (p : Nat) : State := s.markRows p storyRows

/-- VIEW (R98). -/
def execViewSlip (s : State) : Host.Outcome State Fault Refusal :=
  .next (s.serve .view fun v s =>
    let n := (v.word 1).toNat
    let p := v.position
    if n = 0 then ((s.putView p {}).markView p).reply v { code := .done }
    else if !s.names n then s.reply v { code := .nostory }
    else
      let known := s.knownLength n
      let top := clamp 0 (maxTop known) (v.word 2).toNat
      ((s.putView p ⟨some n, top, known⟩).markView p).reply v { code := .done, w5 := packNat top, w6 := packNat known })

/-- R99: a top line moved by a signed delta and clamped. -/
def scrollTop (top known : Nat) (delta : Word) : Nat := clamp 0 (maxTop known) (Int.toNat (top + delta.toInt))

/-- SCROLL (R99). -/
def execScrollSlip (s : State) : Host.Outcome State Fault Refusal :=
  .next (s.serve .scroll fun v s =>
    let p := v.position
    let w := s.viewOf p
    if w.story = none then s.reply v { code := .state }
    else
      let top := scrollTop w.top w.known (v.word 1)
      ((s.putView p { w with top }).markView p).reply v { code := .done, w5 := packNat top, w6 := packNat w.known })

/-- RESHOW (R100). -/
def execReshowSlip (s : State) : Host.Outcome State Fault Refusal :=
  .next (s.serve .reshow fun v s => (s.markRows v.position allRows).reply v { code := .done })

/-- R62, R96: every view of a story is cleared and its rows 0 to 22 marked. -/
def State.clearViews (s : State) (n : Nat) : State :=
  (s.viewersOf n).foldl (fun s p => (s.putView p {}).markView p) s

/-! ### Notices (section 6.4) -/

/-- R102: the row of a view that shows a copy line. -/
def View.rowOf (w : View) (line : Nat) : Option Nat :=
  if w.top ≤ line ∧ line - w.top < 22 ∧ line < w.known then some (line - w.top) else none

/-- R102: the text row that shows a copy line of a story is marked in each view. -/
def State.markLine (s : State) (n line : Nat) : State :=
  (s.viewersOf n).foldl (fun s p =>
    match (s.viewOf p).rowOf line with
    | some r => s.markRow p r
    | none => s) s

/-- R69, R102: a write notice to the Screen Unit: the story, the copy line, and whether a bracket holds the notice back, as it does with the
notice of R7 but never with an intake notice. -/
def Notice.screenWritten : Notice → Option (Nat × Nat × Bool)
  | .screenWrite w => some (w.story, w.line, true)
  | .screenLine n l => some (n, l, false)
  | _ => none

/-- R102: a write notice marks its row, unless it is one that a bracket holds back and the story is held as bracketed. -/
def State.screenWritten (s : State) (x : Nat × Nat × Bool) : State :=
  if x.2.2 && s.screen.bracketed.contains x.1 then s else s.markLine x.1 x.2.1

/-- SCREEN_WRITE_NOTICE (R69, R102): a write notice of the Path Unit (R7) or of the Intake Unit (R138). -/
def execScreenWriteNotice (s : State) : Host.Outcome State Fault Refusal :=
  .next (s.takeNotice Notice.screenWritten fun x s => s.screenWritten x)

/-- R97: a view takes a story's new filled length. -/
def State.viewLength (s : State) (p blocks : Nat) : State :=
  let w := s.viewOf p
  let known := blocks * Config.linesPerBlock
  let s := s.putView p { w with known, top := min w.top (maxTop known) }
  if maxTop known < w.top then s.markRows p (List.range 22)
  else s.markRows p ((List.range 22).filter fun r => min w.known known ≤ w.top + r && w.top + r < max w.known known)

/-- SCREEN_LENGTH_NOTICE (R97). -/
def execScreenLengthNotice (s : State) : Host.Outcome State Fault Refusal :=
  .next (s.takeNotice (fun | .screenLength n b => some (n, b) | _ => none) fun x s =>
    (s.viewersOf x.1).foldl (fun s p => s.viewLength p x.2) s)

/-- SCREEN_FIT_NOTICE (R74, R103). -/
def execScreenFitNotice (s : State) : Host.Outcome State Fault Refusal :=
  .next (s.takeNotice (fun | .screenFit n => some n | _ => none) fun n s => s.markViews n [fitRow])

def Notice.screenBracket : Notice → Option (Nat × Option BracketEnd)
  | .screenOpening n => some (n, none)
  | .screenEnding n e => some (n, some e)
  | _ => none

/-- SCREEN_OPENING_NOTICE (R67, R103). -/
def execScreenOpeningNotice (s : State) : Host.Outcome State Fault Refusal :=
  .next (s.takeBracketNotice Notice.screenBracket false fun n s =>
    (s.withScreen { s.screen with bracketed := s.screen.bracketed ++ [n] }).markViews n [fitRow])

/-- SCREEN_ENDING_NOTICE (R70). -/
def execScreenEndingNotice (s : State) : Host.Outcome State Fault Refusal :=
  .next (s.takeBracketNotice Notice.screenBracket true fun n s =>
    (s.withScreen { s.screen with bracketed := s.screen.bracketed.filter (· ≠ n) }).markViews n storyRows)

/-- LOCK_NOTICE (R103). -/
def execLockNotice (s : State) : Host.Outcome State Fault Refusal :=
  .next (s.takeNotice (fun | .lock n => some n | _ => none) fun n s => s.markViews n [fitRow])

/-- SCREEN_PLACEMENT_NOTICE (R103). -/
def execScreenPlacementNotice (s : State) : Host.Outcome State Fault Refusal :=
  .next (s.takeNotice (fun | .screenPlacement n _ => some n | _ => none) fun n s => s.markViews n [fitRow])

/-- MARK_NOTICE (R103). -/
def execMarkNotice (s : State) : Host.Outcome State Fault Refusal :=
  .next (s.takeNotice (fun | .mark n => some n | _ => none) fun n s => s.markViews n [fitRow])

/-- The in-use positions, in ascending order. -/
def State.inUsePositions (s : State) : List Nat := (s.dir.positions.filter fun e => e.2.inUse).map Prod.fst

/-- R103: the fit row of every view whose story has a placement in an edition. -/
def State.markEditionFit (s : State) (e : Nat) : State :=
  (s.screen.views.filter fun w => match w.2.story with
    | some n => ((s.story n).placements.any fun x => x.1 == e)
    | none => false).foldl (fun s w => s.markRow w.1 fitRow) s

/-- EDITION_NOTICE (R103, R104; which rows an edition notice marks: log 25). -/
def execEditionNotice (s : State) : Host.Outcome State Fault Refusal :=
  .next (s.takeNotice (fun | .edition e changed => some (e, changed) | _ => none) fun x s =>
    let s := if x.2 then s.markEditionFit x.1 else s
    s.inUsePositions.foldl (fun s p => s.markRow p basketRow) s)

/-- HAND_NOTICE (R19, R104). -/
def execHandNotice (s : State) : Host.Outcome State Fault Refusal :=
  .next (s.takeNotice (fun | .hand p => some p | _ => none) fun p s => s.markRow p basketRow)

/-- BASKET_NOTICE (R54, R104). -/
def execBasketNotice (s : State) : Host.Outcome State Fault Refusal :=
  .next (s.takeNotice (fun | .basket d => some d | _ => none) fun d s =>
    (s.inUsePositions.filter fun p => (s.position p).desk == d).foldl (fun s p => s.markRow p basketRow) s)

/-! ### Row contents (section 6.5) -/

/-- R106: how a story byte is sent. -/
def sendByte (b : Byte) : Byte :=
  let c := b.toNat
  if c = 0x01 ∨ (0x10 ≤ c ∧ c ≤ 0x13) ∨ (0x20 ≤ c ∧ c ≤ 0x7F) then b else 0x20

/-- R107: the chosen placement's edition. -/
def State.chosenEdition (s : State) (n : Nat) : Option Nat :=
  let placed := (s.story n).placements.map Prod.fst
  match placed.find? fun e => (s.editionOf e).isOpen with
  | some e => some e
  | none => placed.getLast?

/-- Table 6-4: the fit state in five columns. -/
def FitState.text : FitState → String
  | .none => "NONE "
  | .queued => "QUEUE"
  | .counting => "COUNT"
  | .bracketed => "BRACK"
  | .current => "CURR "
  | .error => "ERROR"

/-- A text shown when a condition holds, and as many spaces when it does not. -/
def shownIf (c : Bool) (t : String) : List Byte := if c then ascii t else spaces t.length

/-- Table 6-4: columns 26 to 41: edition, hole lines, outcome and amount. -/
def outcomeColumns (e : Option Nat) (h : HoleResult) : List Byte :=
  let edition := match e with
    | some e => [digit e]
    | none => ascii "-"
  let lines := if h.kind = .nohole then spaces 3 else rightJust 3 h.lines
  let rest := match h.kind with
    | .nohole => ascii "NOHL" ++ spaces 4
    | .fits => ascii "FITS" ++ spaces 4
    | .over => ascii "OVER" ++ rightJust 4 h.amount
    | .short => ascii "SHRT" ++ rightJust 4 h.amount
  ascii "E" ++ edition ++ spaces 1 ++ ascii "H" ++ lines ++ spaces 1 ++ rest

/-- R107, Table 6-4: the fit row of a view showing a story. -/
def State.fitRowChars (s : State) (n : Nat) : List Byte :=
  let st := s.story n
  let e := s.chosenEdition n
  let h : HoleResult := match e with
    | some e => tget (fun _ => {}) st.fit.outcomes e
    | none => {}
  st.slug ++ spaces 1 ++ ascii st.fit.state.text ++ spaces 1 ++ ascii "L" ++ rightJust 4 st.fit.lines ++ shownIf st.fit.sat "+" ++ spaces 1
    ++ outcomeColumns e h ++ spaces 1 ++ shownIf st.truncated "TRUNC" ++ spaces 1 ++ shownIf st.gapped "GAP" ++ spaces 1
    ++ shownIf (s.locked n) "SET" ++ spaces 1 ++ shownIf (s.screen.bracketed.contains n) "BRKT" ++ spaces 3

/-- R108: the seconds to go to a deadline. -/
def State.toGo (s : State) (deadline : Nat) : Nat :=
  if s.clock.tod ≤ deadline then deadline - s.clock.tod else deadline + Config.secondsPerDay - s.clock.tod

/-- R108: the least countdown over the OPEN editions that have a deadline. -/
def State.countdown (s : State) : Option Nat :=
  let all := [1, 2, 3, 4].filterMap fun e =>
    if (s.editionOf e).isOpen then (s.editionOf e).deadline.map s.toGo else none
  if s.clock.clockSet then all.min? else none

/-- R108, Table 6-5: the basket row of a position. -/
def State.basketRowChars (s : State) (p : Nat) : List Byte :=
  let q := s.position p
  let left := match s.countdown with
    | some t => rightJust 2 (t / 3600) ++ ascii ":" ++ [digit (t % 3600 / 60 / 10), digit (t % 3600 / 60)]
    | none => ascii " -:--"
  let slug := match q.hand with
    | n :: _ => (s.story n).slug
    | [] => spaces 12
  (s.deskEntry q.desk).name ++ spaces 1 ++ rightJust 4 (s.basketCount q.desk) ++ spaces 1 ++ ascii "F" ++ rightJust 2 (min 99 (s.flashCount q.desk))
    ++ spaces 1 ++ ascii "A" ++ rightJust 3 (min 999 (s.oldestAge q.desk / 60)) ++ spaces 1 ++ ascii "D" ++ left ++ spaces 1
    ++ ascii "H" ++ [digit q.hand.length] ++ spaces 1 ++ slug ++ spaces 21

/-! ### Fetch start (section 6.6) -/

/-- What a row is made from: a store read of a copy line, or characters composed at once. -/
inductive RowSource where
  | read (addr : Nat)
  | chars (l : List Byte)
deriving DecidableEq, Repr

/-- R106 to R109: the source of a row of a position as the state stands. -/
def State.rowSource (s : State) (p r : Nat) : RowSource :=
  let w := s.viewOf p
  if r < 22 then
    match w.story with
    | some n =>
      let c := w.top + r
      if c < w.known ∧ c / Config.linesPerBlock < (s.story n).filled then .read (chainAddr (s.story n).chain c) else .chars (spaces 64)
    | none => .chars (spaces 64)
  else if r = fitRow then
    match w.story with
    | some n => .chars (s.fitRowChars n)
    | none => .chars (spaces 64)
  else .chars (s.basketRowChars p)

/-- The lowest dirty row of a position. -/
def State.lowestDirty (s : State) (p : Nat) : Option Nat := allRows.find? fun r => (s.dirtyMap p).getLsbD r

/-- R109: the fetch start of the lowest dirty row of the position on a drop; none when there is no such row. -/
def State.fetchStart (s : State) (link drop : Nat) : Option State :=
  match s.positionOn link drop with
  | none => none
  | some p =>
    match s.lowestDirty p with
    | none => none
    | some r =>
      let source := s.rowSource p r
      let s := s.putDirty p (s.dirtyMap p &&& ~~~(rowBit r))
      some (match source with
        | .chars l => s.putLink link { s.link link with hand := some ⟨p, drop, r, true, some l⟩ }
        | .read a =>
          let s := s.putLink link { s.link link with hand := some ⟨p, drop, r, false, none⟩ }
          s.withScreen { s.screen with requests := s.screen.requests ++ [⟨link, a⟩] })

/-- R110: the 64 characters of a text row read from the store. -/
def rowFromWords (words : List (Option Word)) : List Byte :=
  if words.any Option.isNone then List.replicate 64 0x7F else (goodBytes words).map sendByte

/-- R112: every view cleared and every map set clean, with no notice. -/
def State.clearScreen (s : State) : State := s.withScreen {}

end Sys2Proof.Machine
end

