-- ==== Sys2Proof/Machine/DeskUnit.lean ====
section
/-! DEFINITION. The Desk Unit (chapter 4): the custody slips SEND, TAKE, RECALL and SPIKE, brackets, and BASKETSTAT. -/

namespace Sys2Proof.Machine

/-- R18: a story moves into a basket. -/
def State.moveToBasket (s : State) (n d : Nat) : State := (s.leave n).enterBasket n d

/-- R18: a story moves into a hand. -/
def State.moveToHand (s : State) (n p : Nat) : State := (s.leave n).enterHand n p

/-- The place of a story in a basket, from 0 at the head. -/
def State.basketPlace (s : State) (n d : Nat) : Nat := ((s.basketOf d).findIdx? (· == n)).getD 0

/-! ### Custody slips (sections 4.2 and 4.3) -/

/-- The story that SEND, RECALL, SPIKE and BRACKET name in word 1. -/
def Service.story (v : Service) : Nat := (v.word 1).toNat

/-- R56: SEND, handed over. -/
def State.sendStory (v : Service) (s : State) : State :=
  let n := v.story
  let d := byteAt (v.word 2) 0
  let c := byteAt (v.word 2) 1
  if !s.names n then s.reply v { code := .nostory }
  else if (s.story n).custody ≠ .held v.position then s.reply v { code := .notholder }
  else if 15 < d ∨ 2 < c then s.reply v { code := .badarg, d1 := 2 }
  else
    let s := s.breakBracket n
    let s := s.putStory n { s.story n with cls := classOf c }
    let s := s.moveToBasket n d
    s.reply v { code := .done, w5 := packNat (s.basketPlace n d), w6 := packNat (s.basketCount d) }

/-- SEND (R55, R56). -/
def execSendSlip (s : State) : Host.Outcome State Fault Refusal := .next (s.serveUnlocked .send Service.story State.sendStory)

/-- R57: the story a TAKE names: word 2, or the head of the basket when that is 0. -/
def State.takeTarget (s : State) (v : Service) : Nat :=
  if (v.word 2).toNat = 0 then (s.basketOf (byteAt (v.word 1) 0)).headD 0 else (v.word 2).toNat

/-- R57: TAKE, handed over. -/
def State.takeStory (v : Service) (s : State) : State :=
  let d := byteAt (v.word 1) 0
  let p := v.position
  let n := s.takeTarget v
  if 15 < d then s.reply v { code := .badarg, d1 := 1 }
  else if (s.position p).desk ≠ d then s.reply v { code := .nopriv }
  else if Config.handSize ≤ (s.position p).hand.length then s.reply v { code := .full }
  else if (v.word 2).toNat = 0 ∧ s.basketOf d = [] then s.reply v { code := .empty }
  else if n ∉ s.basketOf d then s.reply v { code := .nostory }
  else
    let s := s.moveToHand n p
    s.reply v { code := .done, d1 := (s.story n).cls.number, w5 := packNat n, w6 := packNat (s.basketCount d) }

/-- TAKE (R55, R57). -/
def execTakeSlip (s : State) : Host.Outcome State Fault Refusal :=
  .next (s.serve .take fun v s => if s.pairStory = some (s.takeTarget v)
    then s.withSlip { s.slip with service := some { v with phase := .held .take } } else State.takeStory v s)

/-- R58: the seconds of recall guard still to run, for a story held by another position. -/
def State.guardLeft (s : State) (v : Service) (n : Nat) : Option (Nat × Nat) :=
  match (s.story n).custody with
  | .held p =>
    let age := s.since (s.story n).takeTime
    if p ≠ v.position ∧ age < s.desk.recallGuard then some (s.desk.recallGuard - age, p) else none
  | _ => none

/-- R58: the story already stands where the target puts it. -/
def State.recallNeedless (s : State) (v : Service) (n : Nat) : Bool :=
  if byteAt (v.word 2) 0 = 0 then (s.story n).custody == .held v.position else (s.story n).custody == .basket (byteAt (v.word 2) 1)

/-- R59: words 5 and 6 of a RECALL: where the story came from, and its age there. -/
def State.recallOrigin (s : State) (n : Nat) : Word × Word :=
  match (s.story n).custody with
  | .held p => (packBytes 0 p 0 0, packNat (s.since (s.story n).takeTime))
  | .basket d => (packBytes 1 d 0 0, 0)
  | _ => (0, 0)

/-- R18: the story is in INTAKE. -/
def State.inIntake (s : State) (n : Nat) : Bool :=
  match (s.story n).custody with
  | .intake _ => true
  | _ => false

/-- R58, R59: RECALL, handed over. -/
def State.recallStory (v : Service) (s : State) : State :=
  let n := v.story
  let kind := byteAt (v.word 2) 0
  let desk := byteAt (v.word 2) 1
  if !s.names n then s.reply v { code := .nostory }
  else if 1 < kind ∨ (kind = 1 ∧ 15 < desk) then s.reply v { code := .badarg, d1 := 2 }
  else if s.inIntake n then s.reply v { code := .state }
  else if s.recallNeedless v n then s.reply v { code := .ignored }
  else match s.guardLeft v n with
    | some (left, p) => s.reply v { code := .guarded, w5 := packNat left, w6 := packNat p }
    | none =>
      if kind = 0 ∧ Config.handSize ≤ (s.position v.position).hand.length then s.reply v { code := .full }
      else
        let origin := s.recallOrigin n
        let s := s.breakBracket n
        let s := if kind = 0 then s.moveToHand n v.position else s.moveToBasket n desk
        s.reply v { code := .done, w5 := origin.1, w6 := origin.2 }

/-- RECALL (R55, R58, R59). -/
def execRecallSlip (s : State) : Host.Outcome State Fault Refusal := .next (s.serveUnlocked .recall Service.story State.recallStory)

/-- R61: who may spike a story where it stands. -/
def State.spikeBar (s : State) (v : Service) (n : Nat) : Option Code :=
  match (s.story n).custody with
  | .intake _ => some .state
  | .held p => if p = v.position then none else some .notholder
  | .basket _ => if (s.position v.position).chief then none else some .nopriv
  | .free => none

/-- R62: a bracket, the views, the recount and the Page Unit's hold of a story are cleared before it is freed. -/
def State.releaseStory (s : State) (n : Nat) : State :=
  let s := match (s.story n).bracketRef with
    | some k => s.dropBracket k .broken
    | none => s
  let s := (s.clearViews n).leaveFit n
  let s := s.withFit { s.fit with bracketed := s.fit.bracketed.filter (· ≠ n) }
  let s := s.withScreen { s.screen with bracketed := s.screen.bracketed.filter (· ≠ n) }
  s.withPage { s.page with bracketed := s.page.bracketed.filter (· ≠ n) }

/-- R61, R62: SPIKE, handed over. -/
def State.spikeStory (v : Service) (s : State) : State :=
  let n := v.story
  if !s.names n then s.reply v { code := .nostory }
  else match s.spikeBar v n with
    | some c => s.reply v { code := c }
    | none =>
      if !(s.story n).placements.isEmpty then s.reply v { code := .placed }
      else
        let blocks := (s.story n).chain.length
        let s := (s.releaseStory n).freeStory n
        s.reply v { code := .done, w5 := packNat blocks, w6 := packNat s.freeCount }

/-- SPIKE (R55, R61, R62). -/
def execSpikeSlip (s : State) : Host.Outcome State Fault Refusal := .next (s.serveUnlocked .spike Service.story State.spikeStory)

/-! ### Brackets (sections 4.4 and 4.5) -/

/-- R66: the lowest-numbered free entry of the bracket table. -/
def State.freeBracket (s : State) : Option Nat := (List.range Config.bracketCount).find? fun k => !(s.bracketAt k).inUse

/-- R66: BRACKET, handed over. -/
def State.bracketStory (v : Service) (s : State) : State :=
  let n := v.story
  let st := s.story n
  if !s.names n then s.reply v { code := .nostory }
  else if st.custody ≠ .held v.position then s.reply v { code := .notholder }
  else match st.bracketRef with
    | some k => s.reply v { code := .ignored, w5 := packNat k, w6 := packNat (s.bracketAt k).count }
    | none =>
      match s.freeBracket with
      | none => s.reply v { code := .busy }
      | some k =>
        let count := clamp 4 64 (v.word 2).toNat
        let s := (s.putBracket k ⟨true, n, v.position, count, s.desk.bracketLimit⟩).putStory n { st with bracketRef := some k }
        (s.sendAll [.screenOpening n, .fitOpening n, .pageOpening n]).reply v { code := .done, w5 := packNat k, w6 := packNat count }

/-- BRACKET (R55, R66, R67). -/
def execBracketSlip (s : State) : Host.Outcome State Fault Refusal := .next (s.serveUnlocked .bracket Service.story State.bracketStory)

/-- R68: a write counted against an open bracket. -/
def State.countWrite (s : State) (n : Nat) : State :=
  match (s.story n).bracketRef with
  | none => s
  | some k =>
    let b := s.bracketAt k
    if b.count ≤ 1 then s.endBracket k .full else s.putBracket k { b with count := b.count - 1 }

/-- DESK_WRITE_NOTICE (R68). -/
def execDeskWriteNotice (s : State) : Host.Outcome State Fault Refusal :=
  .next (s.takeNotice (fun | .deskWrite w => some w | _ => none) fun w s => s.countWrite w.story)

/-- R71: the 1 ms tick that brings a bracket's time left to 0 ends the bracket TIME in the same event. -/
def State.bracketExpiry (s : State) (k : Nat) : State :=
  if (s.bracketAt k).inUse ∧ (s.bracketAt k).timeLeft ≤ 1 then s.endBracket k .time else s

/-- R71: a 1 ms tick at a bracket. -/
def State.bracketTick (s : State) (k : Nat) : State :=
  let b := s.bracketAt k
  if b.inUse ∧ 1 < b.timeLeft then s.putBracket k { b with timeLeft := b.timeLeft - 1 } else s.bracketExpiry k

/-- BRACKET_TIME_EXPIRY (R71): the Desk Unit takes the tick that brings the time left to 0 ahead of the other units (log 12). -/
def execBracketTimeExpiry (entry : Fin 8) (s : State) : Host.Outcome State Fault Refusal := .next (s.bracketExpiry entry)

/-! ### BASKETSTAT -/

/-- BASKETSTAT (R63; the order of its two BADARG tests: log 46). -/
def execBasketstatSlip (s : State) : Host.Outcome State Fault Refusal :=
  .next (s.serve .basketstat fun v s =>
    let d := byteAt (v.word 1) 0
    let i := (v.word 2).toNat
    if 15 < d then s.reply v { code := .badarg, d1 := 1 }
    else if 2046 < i then s.reply v { code := .badarg, d1 := 2 }
    else
      let count := s.basketCount d
      let place := match (s.basketOf d)[i]? with
        | some n => packBytes (n % 256) (n / 256) (s.story n).cls.number 0
        | none => 0
      s.reply v
        { code := .done, d1 := count % 256, d2 := count / 256, d3 := min 255 (s.flashCount d), w5 := place, w6 := packNat (s.oldestAge d) })

/-! ### Restarts (R73) -/

/-- R72, R73: every open bracket ends BROKEN, in ascending entry number, which is the order of the ending notices (log 60). -/
def State.breakAll (s : State) : State :=
  (List.range Config.bracketCount).foldl (fun s k => if (s.bracketAt k).inUse then s.endBracket k .broken else s) s

/-- R73: the baskets and the bracket table emptied; the settings are kept. -/
def State.clearDesk (s : State) : State := s.withDesk { s.desk with baskets := [], brackets := [] }

end Sys2Proof.Machine
end

