-- ==== Sys2Proof/Machine/SetLink.lean ====
section
/-! DEFINITION. The Set Link Controller (chapter 10): link start, the frames of an attempt, reading and spoiling, what is received, answers,
cancels, fall-back, SETSTAT and its settings. -/

namespace Sys2Proof.Machine

/-! ### Starting and the next frame -/

/-- R168, R172, R175: a Set Link read in progress loses its requester, and a waiting one is withdrawn. -/
def State.dropSetRead (s : State) : State :=
  let s := s.withSet { s.set with request := none }
  match s.path.port with
  | some (.set _) => s.withPath { s.path with orphan := true }
  | _ => s

/-- R169: an OFFER carrying the working maximum begins. -/
def SetLink.sendOffer (l : SetLink) : SetLink :=
  { l with tx := some (.offer l.workingMax), offered := l.workingMax, offerCount := l.offerCount + 1, offerWait := none }

/-- R169: the link start. -/
def SetLink.start (l : SetLink) : SetLink :=
  ({ l with
    state := .starting, rate := 0, offerCount := 0, held := false, checkCount := 0, spoiled := 0, attempt := none, stage := .opening
    cancel := none, startDue := false } : SetLink).sendOffer

/-- R171: bytes of the read-ahead, first the oldest line, moved to a TEXT frame; a line whose bytes are all taken leaves its place. -/
def supply : Nat → List (List (Nat × Byte)) → List (Nat × Byte) × List (List (Nat × Byte))
  | _, [] => ([], [])
  | n, line :: r =>
    if n < line.length then (line.take n, line.drop n :: r)
    else
      let t := supply (n - line.length) r
      (line ++ t.1, t.2)

/-- The copy lines read ahead. -/
def SetLink.readyLines (l : SetLink) : List (List (Nat × Byte)) :=
  match l.stage with
  | .sending p => p.ahead
  | _ => []

/-- R168, R175, R178: no further read serves the TEXT frame in progress: it ends with what the read-ahead holds, as a spoiled frame when that is
too little, and neither spoiled count rises (log 40). -/
def SetLink.cutText (l : SetLink) : SetLink :=
  match l.tx with
  | some (.text n payload false) =>
    let all := payload ++ (supply (n - payload.length) l.readyLines).1
    { l with tx := some (.text n all (all.length < n)) }
  | _ => l

/-- R175: at READFAIL a TEXT frame in progress goes on as a spoiled frame, and neither spoiled count rises. -/
def SetLink.spoilText (l : SetLink) : SetLink :=
  match l.tx with
  | some (.text n payload false) => { l with tx := some (.text n payload true) }
  | _ => l

/-- R168, R169, R178: the link starts, when any frame in progress has ended. -/
def State.startSet (s : State) : State :=
  let s := s.dropSetRead
  s.withSet
    (if s.set.tx.isSome then { s.set.cutText with attempt := none, stage := .opening, cancel := none, startDue := true } else s.set.start)

/-- R171: the last copy line that is read for a record. -/
def SetRecord.lastLine (r : SetRecord) : Nat := (r.textEnd - 1) / Config.lineBytes

/-- R171: the sending pass presents its next read when one of the two places is free. -/
def State.readAhead (s : State) : State :=
  let reading := match s.path.port with
    | some (.set _) => !s.path.orphan
    | _ => false
  match s.set.stage, s.set.attempt.bind fun a => a.todo.head? with
  | .sending p, some r =>
    if s.set.request = none ∧ !reading ∧ r.textEnd ≠ 0 ∧ p.ahead.length < 2 ∧ p.nextLine ≤ r.lastLine ∧ s.set.cancel = none then
      s.withSet { s.set with request := some (chainAddr r.blocks p.nextLine) }
    else s
  | _, _ => s

/-- R171, R172: the transmitter takes up to `k` payload bytes of the TEXT frame in progress from the read-ahead, and a place so freed is read
into. -/
def State.transmit (s : State) (k : Nat) : State :=
  match s.set.tx, s.set.stage with
  | some (.text n payload false), .sending p =>
    let m := min k (n - payload.length)
    if m = 0 then s
    else
      let t := supply m p.ahead
      (s.withSet { s.set with tx := some (.text n (payload ++ t.1) false), stage := .sending { p with ahead := t.2 } }).readAhead
  | _, _ => s

/-- R172: the transmitter has taken every payload byte that is there. -/
def State.transmitAll (s : State) : State :=
  match s.set.tx with
  | some (.text n _ _) => s.transmit n
  | _ => s

/-- R170, R171: the next placement: its sizing pass, or PAGE-CLOSE when there is none. -/
def State.nextPlacement (s : State) : State :=
  match s.set.attempt.bind fun a => a.todo.head? with
  | none => s.withSet { s.set with stage := .closing }
  | some r =>
    if r.textEnd = 0 then s.withSet { s.set with stage := .sending ⟨0, false, 0, 0, 0, []⟩ }
    else s.withSet { s.set with stage := .sizing 0 0, request := some (chainAddr r.blocks 0) }

/-- R170, R171: the frame that is due at the stage of an attempt: none while the sizing pass runs, nor between the last text byte and the end of
the sending pass, which reads to the last copy line (log 32). With a text count of 0 PLACE-END follows PLACE directly. -/
def nextFrame (a : Attempt) : Stage → Option SetFrame
  | .opening => some (.pageOpen a.edition a.page a.count a.pickTime)
  | .sizing _ _ => none
  | .sending p =>
    match a.todo with
    | [] => none
    | r :: _ =>
      if !p.placed then some (.place r p.text)
      else if p.sent < p.text then some (.text (min 256 (p.text - p.sent)) [] false)
      else if p.text ≠ 0 ∧ r.textEnd ≠ 0 ∧ p.nextLine ≤ r.lastLine then none
      else some (.placeEnd r.index)
  | .closing => some (.pageClose a.edition a.page)

/-- The stage with PLACE begun. -/
def Stage.placed : Stage → Stage
  | .sending p => .sending { p with placed := true }
  | g => g

/-- R175: a cancel told by the Page Unit and not yet taken; the reason of the outcome that unit took stands. -/
def State.cancelTold (s : State) : Option (CancelReason × List Notice) := pullFirst (fun | .cancel r => some r | _ => none) s.notices

/-- R170, R173, R175: between frames, with nothing held and no start due, PAGE-CANCEL or the next frame of the attempt begins. -/
def State.pumpSet (s : State) : State :=
  match s.set.attempt with
  | none => s
  | some a =>
    if s.set.tx.isSome || s.set.held || s.set.startDue then s
    else match s.set.cancel with
      | some r =>
        match s.cancelTold with
        | some (told, rest) => (s.withNotices rest).withSet { s.set with cancel := some told, tx := some (.pageCancel a.edition a.page told) }
        | none => s.withSet { s.set with tx := some (.pageCancel a.edition a.page r) }
      | none =>
        if s.set.state ≠ .sending then s
        else match nextFrame a s.set.stage with
          | none => s
          | some f => (s.withSet { s.set with tx := some f, stage := s.set.stage.placed }).readAhead

/-- R175: a cancel is taken: reads stop, a TEXT frame in progress is let end, as a spoiled one at READFAIL, and PAGE-CANCEL follows. -/
def State.beginCancel (s : State) (r : CancelReason) : State :=
  let s := s.dropSetRead
  (s.withSet { (if r = .readFail then s.set.spoilText else s.set.cutText) with cancel := some r, checkCount := 0 }).pumpSet

/-- R174: the link becomes READY, which is reported. -/
def State.setReady (s : State) : State :=
  (s.withSet { s.set with state := .ready, attempt := none, cancel := none }).send .ready

/-- R170: the hand-over of an attempt. -/
def State.handOver (s : State) (a : Attempt) : State :=
  (s.withSet { s.set with state := .sending, spoiled := 0, attempt := some a, stage := .opening }).pumpSet

/-! ### Frames sent -/

/-- R172: a TEXT frame has gone: its bytes count as sent, or it is sent again, or the eighth spoiled one ends the attempt. -/
def State.textSent (s : State) (n : Nat) (payload : List (Nat × Byte)) (spoilt : Bool) : State :=
  match s.set.stage with
  | .sending p =>
    if spoilt then
      if Config.spoiledLimit ≤ s.set.spoiled then (s.send (.outcome .underflow)).beginCancel .underflow else s.pumpSet
    else
      let after := match payload.getLast? with
        | some b => b.1 + 1
        | none => p.pos
      (s.withSet { s.set with stage := .sending { p with sent := p.sent + n, pos := after } }).pumpSet
  | _ => s.pumpSet

/-- What follows a frame whose last byte has gone (R169 to R172). PLACE-END ends the sending pass of its placement: a read that a pass without any
text byte still has waiting or in progress is withdrawn or discarded (log 32). -/
def State.frameGone (s : State) (f : SetFrame) : State :=
  match f with
  | .offer _ => if s.set.state = .starting then s.withSet { s.set with offerWait := some 0 } else s.pumpSet
  | .placeEnd i =>
    let s := s.send (.placeEnd i)
    if s.set.cancel.isSome then s.pumpSet
    else
      let s := s.withSet { s.set with attempt := s.set.attempt.map fun a => { a with todo := a.todo.tail } }
      s.dropSetRead.nextPlacement.pumpSet
  | .pageOpen .. => if s.set.cancel.isSome then s.pumpSet else s.nextPlacement.pumpSet
  | .place .. => s.pumpSet
  | .text n payload spoilt => if s.set.cancel.isSome then s.pumpSet else s.textSent n payload spoilt
  | .pageClose .. =>
    if s.set.cancel.isSome then s.pumpSet
    else s.withSet { s.set with state := .awaiting, answerTime := 0, answerLimit := s.set.answerTimeout * 1000 }
  | .pageCancel .. => s

/-- A frame can have gone: a TEXT frame only when every payload byte has been taken or it is spoiled (R172). -/
def SetFrame.sendable : SetFrame → Bool
  | .text n payload spoilt => spoilt || payload.length == n
  | .pageCancel .. => false
  | .offer _ | .pageOpen .. | .place .. | .placeEnd _ | .pageClose .. => true

/-- SET_FRAME_SENT (R169 to R172): the frame in progress has gone; a start that waited for its end is made (R168). -/
def execSetFrameSent (s : State) : Host.Outcome State Fault Refusal :=
  let sent := s.transmitAll
  .next (match sent.set.tx with
    | none => s
    | some f =>
      if !f.sendable then s
      else
        let t := sent.withSet { sent.set with tx := none }
        if !s.active then t
        else if s.set.startDue then t.startSet
        else t.frameGone f)

/-- PAGE_CANCEL_SENT (R175). -/
def execPageCancelSent (s : State) : Host.Outcome State Fault Refusal :=
  .next (match s.set.tx with
    | some (.pageCancel ..) =>
      let t := s.withSet { s.set with tx := none }
      if !s.active then t
      else if s.set.startDue then t.startSet
      else t.setReady
    | _ => s)

/-- TEXT_FRAME_SPOILED (R172): the transmitter has taken every payload byte that is there, and the next is not. Without an attempt, or once a
cancel has been taken, no count rises and nothing is read again (R175). -/
def execTextFrameSpoiled (s : State) : Host.Outcome State Fault Refusal :=
  let taken := s.transmitAll
  .next (match taken.set.tx, taken.set.stage with
    | some (.text n payload false), .sending p =>
      if n ≤ payload.length then s
      else if s.set.cancel.isSome ∨ s.set.attempt = none then taken.withSet taken.set.spoilText
      else
        let t := taken.dropSetRead
        let again := match payload with
          | b :: _ => b.1 / Config.lineBytes
          | [] => p.nextLine
        let t := t.withSet { t.set with
          tx := some (.text n payload true)
          spoiled := t.set.spoiled + 1, spoiledTotal := satAdd Config.count16 t.set.spoiledTotal 1
          stage := .sending { p with ahead := [], nextLine := again } }
        if t.set.spoiled < Config.spoiledLimit then t.readAhead else t
    | some (.text n payload false), _ => if n ≤ payload.length then s else s.withSet s.set.spoilText
    | _, _ => s)

/-! ### Reads -/

/-- R171: the bytes of a copy line below the end that are not fill, each with its offset, from an offset on. -/
def textBytes (line start stop : Nat) (bytes : List Byte) : List (Nat × Byte) :=
  (bytes.zipIdx.map fun x => (line * Config.lineBytes + x.2, x.1)).filter fun x => start ≤ x.1 && x.1 < stop && x.2 != 0

/-- R171: a copy line read in one of the passes. -/
def State.lineRead (s : State) (r : SetRecord) (bytes : List Byte) : State :=
  match s.set.stage with
  | .sizing i n =>
    let count := n + (textBytes i 0 r.textEnd bytes).length
    if i < r.lastLine then s.withSet { s.set with stage := .sizing (i + 1) count, request := some (chainAddr r.blocks (i + 1)) }
    else (s.withSet { s.set with stage := .sending ⟨count, false, 0, 0, 0, []⟩ }).readAhead.pumpSet
  | .sending p =>
    let got := textBytes p.nextLine p.pos r.textEnd bytes
    let ahead := if got = [] then p.ahead else p.ahead ++ [got]
    (s.withSet { s.set with stage := .sending { p with ahead, nextLine := p.nextLine + 1 } }).readAhead.pumpSet
  | _ => s

/-- SET_READ_GRANT (R171, R175): a Set Link read grant ends; an uncorrectable word ends the attempt READFAIL. -/
def execSetReadGrant (s : State) : Host.Outcome State Fault Refusal :=
  .next (match s.path.port with
    | some (.set a) =>
      let r := s.freePort.ownRead setRead a 16
      match s.path.orphan, r.1.set.attempt with
      | false, some t =>
        if r.2.any Option.isNone then (r.1.send (.outcome .readFail)).beginCancel .readFail
        else match t.todo with
          | rec_ :: _ => r.1.lineRead rec_ (goodBytes r.2)
          | [] => r.1
      | _, _ => r.1
    | _ => s)

/-! ### What is received (R167) -/

/-- What a received byte completes. -/
inductive RxEvent where
  | nothing
  | hold
  | go
  | bad
  | accept (code : Nat)
  | set (edition page : Nat)
  | refuse (edition page reason : Nat)
deriving DecidableEq, Repr

/-- R167, tests 3 to 5, on the bytes of a whole frame from its sync byte. -/
def frameEvent (bytes : List Byte) : RxEvent :=
  let n := bytes.length
  let payload := ((bytes.drop 4).take (n - 6)).map BitVec.toNat
  if setCheck ((bytes.drop 1).take (n - 3)) ≠ leNat (bytes.drop (n - 2)) then .bad
  else match (bytes.getD 1 0).toNat, payload with
    | 0x81, [c] => .accept c
    | 0x82, [e, p] => .set e p
    | 0x83, [e, p, r] => if 1 ≤ r ∧ r ≤ 3 then .refuse e p r else .bad
    | _, _ => .bad

/-- R167: one byte taken by the receiver: the bytes of the frame so far, and what it completes. -/
def rxByte (rx : List Byte) (b : Byte) : List Byte × RxEvent :=
  if rx = [] then
    if b = 0xA5 then ([b], .nothing)
    else if b = 0xC3 then ([], .hold)
    else if b = 0x3C then ([], .go)
    else ([], .bad)
  else
    let bytes := rx ++ [b]
    let length := leNat ((bytes.drop 2).take 2)
    if bytes.length = 4 ∧ 256 < length then ([], .bad)
    else if 4 < bytes.length ∧ bytes.length = length + 6 then ([], frameEvent bytes)
    else (bytes, .nothing)

/-- Bytes taken up to the last one: what the last completes, none when an earlier byte has completed something. -/
def rxBytes (rx : List Byte) : List Byte → Option (List Byte × RxEvent)
  | [] => none
  | [b] => some (rxByte rx b)
  | b :: r =>
    match rxByte rx b with
    | (rx, .nothing) => rxBytes rx r
    | _ => none

/-- R167: bytes received: an event of the row's own sort is handled by `k`; bytes that complete nothing are kept; others are no bytes of this
row (log 31). The ticks of a frame begin with its sync byte. -/
def State.receiveSet {α : Type} (s : State) (bytes : List Byte) (f : RxEvent → Option α) (k : α → State → State) : State :=
  if !s.active then s
  else match rxBytes s.set.rx bytes with
    | none => s
    | some (rx, e) =>
      let ticks := if s.set.rx = [] then 0 else s.set.rxTicks
      let t := s.withSet { s.set with rx, rxTicks := if rx = [] then 0 else ticks }
      if e = .nothing then t
      else match f e with
        | some x => k x t
        | none => s

/-- R167: a bad frame or byte counted. -/
def State.countBad (s : State) : State := s.withSet { s.set with badFrames := satAdd Config.count16 s.set.badFrames 1 }

/-- R169, R174: a frame out of turn counted. -/
def State.countOutOfTurn (s : State) : State := s.withSet { s.set with outOfTurn := satAdd Config.count16 s.set.outOfTurn 1 }

/-- BAD_FRAME (R167). -/
def execBadFrame (bytes : List Byte) (s : State) : Host.Outcome State Fault Refusal :=
  .next (s.receiveSet bytes (fun | .bad => some () | _ => none) fun _ s => s.countBad)

/-- R167: a frame not complete at the 100th tick after its sync byte. -/
def State.frameExpiry (s : State) : State :=
  if s.set.rx ≠ [] ∧ Config.frameTicks ≤ s.set.rxTicks then (s.withSet { s.set with rx := [], rxTicks := 0 }).countBad else s

/-- FRAME_TIMEOUT (R167). -/
def execFrameTimeout (s : State) : Host.Outcome State Fault Refusal := .next s.frameExpiry

/-- R173: the flow signals act in READY, SENDING and AWAITING. -/
def SetState.flows : SetState → Bool
  | .ready | .sending | .awaiting => true
  | .down | .starting => false

/-- HOLD (R173). -/
def execHold (s : State) : Host.Outcome State Fault Refusal :=
  .next (s.receiveSet [0xC3] (fun | .hold => some () | _ => none) fun _ s =>
    if s.set.state.flows then s.withSet { s.set with held := true } else s)

/-- GO (R173): the next frame begins. -/
def execGo (s : State) : Host.Outcome State Fault Refusal :=
  .next (s.receiveSet [0x3C] (fun | .go => some () | _ => none) fun _ s =>
    if s.set.state.flows then (s.withSet { s.set with held := false }).pumpSet else s)

/-! ### Offers and answers (R169, R174, R176) -/

/-- ACCEPT (R169). -/
def execAccept (bytes : List Byte) (s : State) : Host.Outcome State Fault Refusal :=
  .next (s.receiveSet bytes (fun | .accept c => some c | _ => none) fun c s =>
    if s.set.state = .starting then
      (s.withSet { s.set with rate := if c = 0 then 1 else min c s.set.offered, offerWait := none }).setReady
    else s.countOutOfTurn)

/-- R169: the wait for an ACCEPT has run out. -/
def State.offerExpiry (s : State) : State :=
  match s.set.state, s.set.offerWait with
  | .starting, some n =>
    if n < Config.offerTicks then s
    else if s.set.offerCount < Config.offerLimit then s.withSet s.set.sendOffer
    else (s.withSet { s.set with state := .down, offerWait := none }).report .set linkFail s.set.offered true
  | _, _ => s

/-- OFFER_TIMEOUT (R169, R176). -/
def execOfferTimeout (s : State) : Host.Outcome State Fault Refusal := .next s.offerExpiry

/-- R174: an answer to a page is within its wait. -/
def State.awaits (s : State) (edition page : Nat) : Bool :=
  s.set.state == .awaiting && s.set.cancel.isNone && s.cancelTold.isNone && !s.set.startDue
    && (s.set.attempt.map fun a => a.edition == edition && a.page == page).getD false

/-- SET (R174). -/
def execSetAnswer (bytes : List Byte) (s : State) : Host.Outcome State Fault Refusal :=
  .next (s.receiveSet bytes (fun | .set e p => some (e, p) | _ => none) fun x s =>
    if s.awaits x.1 x.2 then ((s.send (.outcome .set)).withSet { s.set with checkCount := 0 }).setReady else s.countOutOfTurn)

/-- FALLBACK (R176): the working maximum is lowered, recorded, and the link starts anew. -/
def State.fallBackSet (s : State) : State :=
  let lower := max 1 (s.set.rate - 1)
  ((s.withSet { s.set with checkCount := 0, workingMax := lower }).report .set fallBack lower false).startSet

/-- R174, R176: a REFUSE answer, reported with its reason. -/
def State.refused (s : State) (reason : Nat) : State :=
  let s := s.send (.outcome (.refuse reason))
  if reason = 1 then
    if s.set.checkCount = 1 then s.fallBackSet else (s.withSet { s.set with checkCount := 1 }).setReady
  else (s.withSet { s.set with checkCount := 0 }).setReady

/-- REFUSE (R174, R176). -/
def execRefuseAnswer (bytes : List Byte) (s : State) : Host.Outcome State Fault Refusal :=
  .next (s.receiveSet bytes (fun | .refuse e p r => some (e, p, r) | _ => none) fun x s =>
    if s.awaits x.1 x.2.1 then s.refused x.2.2 else s.countOutOfTurn)

/-- R174: the answer time has reached the timeout of its wait. -/
def State.answerExpiry (s : State) : State :=
  match s.set.attempt with
  | none => s
  | some a =>
    if s.awaits a.edition a.page && s.set.answerLimit ≤ s.set.answerTime then
      ((s.send (.outcome .timeout)).withSet { s.set with checkCount := 0 }).setReady
    else s

/-- ANSWER_TIMEOUT (R174). -/
def execAnswerTimeout (s : State) : Host.Outcome State Fault Refusal := .next s.answerExpiry

/-- CANCEL (R175): the Page Unit's cancel is taken; its reason stands until PAGE-CANCEL begins. -/
def execCancel (s : State) : Host.Outcome State Fault Refusal :=
  .next (s.takeNotice (fun | .cancel r => some r | _ => none) fun r s =>
    match s.set.attempt, s.set.cancel, s.set.tx with
    | none, _, _ => s
    | some _, none, _ => s.beginCancel r
    | some _, some _, some (.pageCancel ..) => s
    | some _, some _, _ => s.withSet { s.set with cancel := some r })

/-! ### SETSTAT and settings -/

/-- SETSTAT (R177). -/
def execSetstatSlip (s : State) : Host.Outcome State Fault Refusal :=
  .next (s.serve .setstat fun v s =>
    let clear := byteAt (v.word 1) 0
    let l := s.set
    if 1 < clear then s.reply v { code := .badarg, d1 := 1 }
    else if clear = 1 ∧ !s.privileged v.agent then s.reply v { code := .nopriv }
    else
      (if clear = 1 then s.withSet { s.set with badFrames := 0, outOfTurn := 0, spoiledTotal := 0 } else s).reply v
        { code := .done, d1 := l.state.number, d2 := l.rate, d3 := l.workingMax, w5 := packHalves l.badFrames l.outOfTurn,
          w6 := packBytes (l.spoiledTotal % 256) (l.spoiledTotal / 256) l.spoiled
            (l.held.toNat + 2 * (if l.checkCount = 1 then 1 else 0) + 16 * l.offerCount) })

/-- R168: a write of the maximum rate restarts the link; an attempt in progress is reported RESTART. R176: an attempt that ends so sets the CHECK
count to 0 in this event, though the start may wait for a frame in progress. -/
def State.rateWritten (s : State) : State :=
  let running := s.set.attempt.isSome && s.set.cancel.isNone && s.cancelTold.isNone
  let s := if running then s.send (.outcome .restart) else s
  let s := s.withNotices (s.notices.filter fun n => match n with
    | .cancel _ => false
    | _ => true)
  (if s.set.attempt.isSome then s.withSet { s.set with checkCount := 0 } else s).startSet

/-- R168, R169: the data bytes of a write of the maximum rate. -/
def State.writeMaximumRate (s : State) (data : List Byte) : State :=
  match data with
  | b :: _ =>
    let m := clamp 1 5 b.toNat
    let s := s.withSet { s.set with maxRate := m, workingMax := m }
    if s.active then s.rateWritten else s
  | [] => s

/-- MAXIMUM_RATE_WRITE (R168, R169). -/
def execMaximumRateWrite (data : List Byte) (s : State) : Host.Outcome State Fault Refusal := .next (s.writeMaximumRate data)

/-- R168: the data bytes of a write of the answer timeout; a DOWN link starts. -/
def State.writeAnswerTimeout (s : State) (data : List Byte) : State :=
  match data with
  | b :: _ =>
    let s := s.withSet { s.set with answerTimeout := clamp 1 60 b.toNat }
    if s.active ∧ s.set.state = .down then s.startSet else s
  | [] => s

/-- ANSWER_TIMEOUT_WRITE (R168). -/
def execAnswerTimeoutWrite (data : List Byte) (s : State) : Host.Outcome State Fault Refusal := .next (s.writeAnswerTimeout data)

/-! ### Restarts (R178) -/

/-- R178: the warm restart of the Set Link. -/
def State.warmSet (s : State) : State :=
  (s.withSet { s.set with held := false, spoiled := 0, checkCount := 0, workingMax := s.set.maxRate }).startSet

/-- R178: the power-on values, but for the settings and the frame in progress, which is let end. -/
def State.clearSet (s : State) : State :=
  s.withSet { maxRate := s.set.maxRate, answerTimeout := s.set.answerTimeout, tx := s.set.cutText.tx }

end Sys2Proof.Machine
end

