-- ==== Sys2Proof/Machine/PathUnit.lean ====
section
/-! DEFINITION. The Path Unit (chapter 1): regions, the write check, the four responses, locked pairs, merging, scrubbing and the store-port
arbiter. -/

namespace Sys2Proof.Machine

/-! ### Regions and tests -/

/-- The regions of R4. -/
inductive Region where
  | beyond
  | slipArea
  | copyArea
  | openArea
deriving DecidableEq, Repr

/-- R4: the region of an address, tested in the rule's order. -/
def State.region (s : State) (a : Nat) : Region :=
  let g := s.path.regions
  if g.storeMiB * Config.mib ≤ a then .beyond
  else if !s.active then .openArea
  else if g.slipBase * Config.blockBytes ≤ a ∧ a < g.slipBase * Config.blockBytes + Config.slipAreaBytes then .slipArea
  else if g.copyFirst ≤ a / Config.blockBytes ∧ a / Config.blockBytes < g.copyFirst + g.copyCount then .copyArea
  else .openArea

/-- R1: the word address of a transaction. -/
def wordAddr (a : BitVec 24) : Nat := a.toNat / 4 * 4

/-- What the tests of a region decide for a write kind or a LOCKED-READ. -/
inductive Test where
  | refuse (r : Reason)
  | retry (story : Nat) (reported : Bool)
  | go (v : Verdict)
deriving DecidableEq, Repr

/-- R25: the write check, the first failing test giving the verdict; a RETRY is reported when the story is setting-locked (R26). -/
def State.writeCheck (s : State) (agent a : Nat) (tag : Option Nat) : Test :=
  let e := s.blockEntry (a / Config.blockBytes)
  let st := s.story e.owner
  if e.owner = 0 then .refuse .unowned
  else match tag with
    | none => .refuse .notholder
    | some p =>
      if st.custody ≠ .held p then .refuse .notholder
      else if (s.position p).agent ≠ agent then .refuse .wrongagent
      else if st.filled ≤ e.index ∨ s.locked e.owner then .retry e.owner (s.locked e.owner)
      else .go (.accepted e.owner e.index)

/-- R4 to R7: the tests of a write kind, and of a LOCKED-READ, in its region. -/
def State.testWrite (s : State) (agent a : Nat) (tag : Option Nat) : Test :=
  match s.region a with
  | .beyond => .refuse .beyond
  | .openArea => .go .openArea
  | .slipArea =>
    if (a - s.path.regions.slipBase * Config.blockBytes) / 512 = agent then .go .ownRing else .refuse .ringowner
  | .copyArea => s.writeCheck agent a tag

/-! ### Answers -/

/-- R1, R2: the response of a transaction. -/
def State.respond (s : State) (agent : Nat) (r : Response) (data : Option Word) : State :=
  s.withPath { s.path with answer := some ⟨agent, r, data⟩ }

/-- R13: a REFUSE and its entry in the agent's refusal record. -/
def State.refuseTxn (s : State) (agent a : Nat) (r : Reason) : State :=
  let old := s.refusalOf agent
  (s.putRefusal agent ⟨satAdd Config.count8 old.count 1, a, r⟩).respond agent .refuse none

/-- R26: a RETRY, reported to the Page Unit when the story is setting-locked. -/
def State.retryTxn (s : State) (agent story : Nat) (reported : Bool) : State :=
  (if reported then s.send (.retryReport story) else s).respond agent .retry none

/-- R9: a read kind's access to its word. -/
def State.readTxn (s : State) (agent a : Nat) : State :=
  match s.ecc a with
  | .clean => s.respond agent .done (some (s.wordAt a))
  | .corrected => ((s.report .store passRead a false).offerScrub a).respond agent .done (some (s.wordAt a))
  | .uncorrected => (s.report .store passRead a true).respond agent .fail none

/-- R10: the enabled bytes of `data` put into a word (log 5). -/
def mergeWord (old data : Word) (be : BitVec 4) : Word :=
  let pick := fun i => if be.getLsbD i then byteAt data i else byteAt old i
  packBytes (pick 0) (pick 1) (pick 2) (pick 3)

/-- R6, R7: what a landed write tells other units, by the verdict it landed under. The position in the notice is the one that holds the story, whose
tag a WRITE has passed the write check with (R25); a LOCKED-WRITE that closes its pair has it from the LOCKED-READ, whatever its own tag is (R8,
log 59). -/
def State.writeLanded (s : State) (agent a : Nat) (be : BitVec 4) (data : Word) (v : Verdict) : State :=
  match v with
  | .openArea => s
  | .ownRing =>
    let off := (a - s.path.regions.slipBase * Config.blockBytes) % 512
    if off % 32 / 4 = 7 ∧ be = 0xF ∧ data = 1 then s.send (.posting agent (off / 32)) else s
  | .accepted n i =>
    let off := i * Config.blockBytes + a % Config.blockBytes
    let w : WriteNote := ⟨n, i, off, off / Config.lineBytes, agent, (s.story n).custody.place⟩
    s.sendAll ([.screenWrite w, .fitWrite w, .deskWrite w] ++ (if (s.story n).placements.isEmpty then [] else [.pageWrite w]))

/-- R5, R7, R10: a write that the tests let land: whole, merged, or with no byte enable. -/
def State.landWrite (s : State) (agent a : Nat) (be : BitVec 4) (data : Word) (v : Verdict) : State :=
  if be = 0 then s.respond agent .done none
  else if be = 0xF then ((s.putWord a data).writeLanded agent a be data v).respond agent .done none
  else match s.ecc a with
    | .clean => ((s.putWord a (mergeWord (s.wordAt a) data be)).writeLanded agent a be data v).respond agent .done none
    | .corrected =>
      (((s.putWord a (mergeWord (s.wordAt a) data be)).report .store mergeRead a false).writeLanded agent a be data v).respond agent .done none
    | .uncorrected => (s.report .store mergeRead a true).respond agent .fail none

/-- A write kind at its grant. -/
def State.writeTxn (s : State) (agent a : Nat) (be : BitVec 4) (data : Word) (tag : Option Nat) : State :=
  match s.testWrite agent a tag with
  | .refuse r => s.refuseTxn agent a r
  | .retry n reported => s.retryTxn agent n reported
  | .go v => s.landWrite agent a be data v

/-! ### Grants of the store port (R15, R16) -/

/-- Table 1-9: the highest waiting own requester, with the request it presents. -/
def State.ownWaiting (s : State) : Option Grant :=
  match s.path.scrubQueue, s.set.request, s.intake.requests, s.screen.requests, s.slip.request, s.fit.request with
  | a :: _, _, _, _, _, _ => some (.scrub a)
  | [], some a, _, _, _, _ => some (.set a)
  | [], none, r :: _, _, _, _ => some (.intake r)
  | [], none, [], r :: _, _, _ => some (.screen r)
  | [], none, [], [], some r, _ => some (.slip r)
  | [], none, [], [], none, some a => some (.fit a)
  | [], none, [], [], none, none => none

/-- R16: an own grant sets the streak to 0, and the request leaves its requester. The scrub queue keeps its address until the re-read (R11). -/
def State.grantOwn (s : State) (g : Grant) : State :=
  let s := s.withPath { s.path with port := some g, streak := 0 }
  match g with
  | .pass => s
  | .scrub _ => s
  | .set _ => s.withSet { s.set with request := none }
  | .intake _ => s.withIntake { s.intake with requests := s.intake.requests.tail }
  | .screen _ => s.withScreen { s.screen with requests := s.screen.requests.tail }
  | .slip _ => s.withSlip { s.slip with request := none }
  | .fit _ => s.withFit { s.fit with request := none }

/-- R16: a pass-through grant raises the streak while an own request waits and sets it to 0 otherwise. -/
def State.grantPass (s : State) : State :=
  s.withPath { s.path with port := some .pass, streak := if s.ownWaiting.isSome then satAdd 3 s.path.streak 1 else 0 }

/-- R16: with the streak at 3 and an own request waiting, the pass-through is not granted. -/
def State.passBarred (s : State) : Bool := s.path.streak == 3 && s.ownWaiting.isSome

/-- R8: the open pair closes. -/
def State.closePair (s : State) : State := s.withPath { s.path with pair := none }

/-- A transaction at its grant (R1, R8, R16): within an open pair's grant for the pair's agent, which closes the pair; RETRY for another agent;
otherwise in the grant the arbiter has made, or makes now at a free port. One that has no grant has done nothing (log 6). -/
def State.transact (s : State) (agent : Nat) (k : State → State) : State :=
  match s.path.pair, s.path.port with
  | some p, _ => if p.agent = agent then k s.closePair else s.respond agent .retry none
  | none, some .pass => k s.freePort
  | none, some _ => s
  | none, none => if s.passBarred then s else k (s.grantPass.freePort)

/-- R11: a word of which one more bit has failed: one wrong bit is put right, two are not (log 4). -/
def Ecc.worse : Ecc → Ecc
  | .clean => .corrected
  | .corrected => .uncorrected
  | .uncorrected => .uncorrected

/-- The words that lost a bit since the last decision (log 4). -/
def State.upset (s : State) (l : List (BitVec 24)) : State :=
  l.foldl (fun s a => s.putEcc (wordAddr a) (s.ecc (wordAddr a)).worse) s

/-! ### The commands -/

/-- READ: classified at its grant and answered as its ECC outcome directs (R4, R9). -/
def execRead (agent : Fin 16) (addr : BitVec 24) (s : State) : Host.Outcome State Fault Refusal :=
  .next (s.transact agent fun s =>
    match s.region (wordAddr addr) with
    | .beyond => s.refuseTxn agent (wordAddr addr) .beyond
    | _ => s.readTxn agent (wordAddr addr))

/-- WRITE: tested for its region, then landed, merged or answered RETRY, REFUSE or FAIL (R4 to R7, R10, R25). -/
def execWrite (agent : Fin 16) (addr : BitVec 24) (be : BitVec 4) (data : Word) (tag : Option (Fin 128)) (s : State) :
    Host.Outcome State Fault Refusal :=
  .next (s.transact agent fun s => s.writeTxn agent (wordAddr addr) be data (tag.map Fin.val))

/-- LOCKED_READ: tested as a write; answered DONE, it opens a pair holding the agent, the word and the verdict (R8, log 7). -/
def execLockedRead (agent : Fin 16) (addr : BitVec 24) (tag : Option (Fin 128)) (s : State) : Host.Outcome State Fault Refusal :=
  .next (s.transact agent fun s =>
    match s.testWrite agent (wordAddr addr) (tag.map Fin.val) with
    | .refuse r => s.refuseTxn agent (wordAddr addr) r
    | .retry n reported => s.retryTxn agent n reported
    | .go v =>
      let t := s.readTxn agent (wordAddr addr)
      if s.ecc (wordAddr addr) = .uncorrected then t
      else t.withPath { t.path with pair := some ⟨agent, wordAddr addr, v, 0⟩ })

/-- LOCKED_WRITE: closes its agent's open pair on the word and lands under the pair's verdict, its own tag untested (log 59); else it is handled as
a WRITE (R8). -/
def execLockedWrite (agent : Fin 16) (addr : BitVec 24) (be : BitVec 4) (data : Word) (tag : Option (Fin 128)) (s : State) :
    Host.Outcome State Fault Refusal :=
  .next (match s.path.pair with
    | some p =>
      if p.agent = agent.val ∧ p.addr = wordAddr addr then s.closePair.landWrite agent (wordAddr addr) be data p.verdict
      else s.transact agent fun s => s.writeTxn agent (wordAddr addr) be data (tag.map Fin.val)
    | none => s.transact agent fun s => s.writeTxn agent (wordAddr addr) be data (tag.map Fin.val))

/-- R8: the pair closes at the second 1 ms tick after it opened. -/
def State.pairExpiry (s : State) : State :=
  match s.path.pair with
  | some p => if Config.pairTicks ≤ p.ticks then s.closePair else s
  | none => s

/-- LOCKED_PAIR_TIMEOUT (R8). -/
def execLockedPairTimeout (s : State) : Host.Outcome State Fault Refusal := .next s.pairExpiry

/-- ARBITER_DECISION (R16): with the port free and no pair open, the pass-through or the highest own request is granted. First come the bits lost
in the store since the last decision (log 4), and the bytes that the set link's transmitter has taken, which frees places of its read-ahead (R171,
log 32). -/
def execArbiterDecision (passWaiting : Bool) (since : SinceDecision) (s : State) : Host.Outcome State Fault Refusal :=
  let s := (s.upset since.upsets).transmit since.taken
  .next (match s.path.port, s.path.pair with
    | none, none =>
      match s.ownWaiting with
      | some g => if s.path.streak == 3 || !passWaiting then s.grantOwn g else s.grantPass
      | none => if passWaiting then s.grantPass else s
    | _, _ => s)

/-- SCRUB (R11): the address leaves the queue, the word is read again, and a CORRECTED one is written back (records: log 34). -/
def execScrub (s : State) : Host.Outcome State Fault Refusal :=
  .next (match s.path.port with
    | some (.scrub a) =>
      let s := s.freePort
      let s := s.withPath { s.path with scrubQueue := s.path.scrubQueue.filter (· ≠ a) }
      match s.ecc a with
      | .clean => s
      | .corrected => (s.putWord a (s.wordAt a)).report .store scrubRead a false
      | .uncorrected => s.report .store scrubRead a true
    | _ => s)

/-- PATHSTAT (R14): an agent's refusal record is read and cleared (BADARG before NOPRIV: log 61). -/
def execPathstatSlip (s : State) : Host.Outcome State Fault Refusal :=
  .next (s.serve .pathstat fun v s =>
    let a := (v.word 1).toNat
    let r := s.refusalOf a
    if 15 < a then s.reply v { code := .badarg, d1 := 1 }
    else if a ≠ v.agent ∧ !s.privileged v.agent then s.reply v { code := .nopriv }
    else (s.putRefusal a {}).reply v { code := .done, d1 := r.count, w5 := packNat r.addr, w6 := packNat r.reason.number })

end Sys2Proof.Machine
end

