-- ==== Sys2Proof/Machine/Directory.lean ====
section
/-! DEFINITION. The Directory Unit's slips (sections 2.6 and 2.7): POSITION, DESK, OPEN, EXTEND, TRIM, ADOPT, STORYSTAT, the block fills and
list reads, and the undoing of R36. -/

namespace Sys2Proof.Machine

/-- The in-use positions with a property, in ascending order. -/
def State.positionsWhere (s : State) (f : Position → Bool) : List Nat :=
  (s.dir.positions.filter fun e => e.2.inUse && f e.2).map Prod.fst

/-- R22: the length notices of a story to the Fit Unit and the Screen Unit. -/
def State.lengthNotices (s : State) (n : Nat) : State :=
  let len := (s.story n).filled
  s.sendAll [.fitLength n len, .screenLength n len]

/-! ### POSITION and DESK -/

/-- R28: the number of the first operand word of POSITION that is out of range. -/
def positionOperandAtFault (v : Service) : Option Nat :=
  let w2 := v.word 2
  let w3 := v.word 3
  if 127 < (v.word 1).toNat then some 1
  else if 1 < byteAt w2 0 ∨ 15 < byteAt w2 1 ∨ 15 < byteAt w2 2 ∨ 1 < byteAt w2 3 then some 2
  else if 15 < byteAt w3 0 ∨ 7 < byteAt w3 1 then some 3
  else none

/-- R28, R101: what the Screen Unit does when a position's entry has changed from `old` to `new`; rows dirty before a move stay so (log 24). -/
def State.positionChanged (s : State) (p : Nat) (old new : Position) : State :=
  if new.inUse then
    if !old.inUse || old.link ≠ new.link || old.drop ≠ new.drop then s.markRows p allRows
    else if old.desk ≠ new.desk then s.markRow p basketRow
    else s
  else if old.inUse then (s.putView p {}).putDirty p 0
  else s

/-- R28: POSITION, handed over. -/
def State.positionSlip (v : Service) (s : State) : State :=
  match positionOperandAtFault v with
  | some i => s.reply v { code := .badarg, d1 := i }
  | none =>
    let p := (v.word 1).toNat
    let old := s.position p
    let new : Position :=
      { old with
        inUse := byteAt (v.word 2) 0 == 1, desk := byteAt (v.word 2) 1, agent := byteAt (v.word 2) 2, chief := byteAt (v.word 2) 3 == 1,
        link := byteAt (v.word 3) 0, drop := byteAt (v.word 3) 1 }
    if new.inUse && s.dir.positions.any (fun e => e.1 != p && e.2.inUse && e.2.link == new.link && e.2.drop == new.drop) then
      s.reply v { code := .badarg, d1 := 3 }
    else if old.hand ≠ [] ∧ (!new.inUse ∨ new.agent ≠ old.agent) then s.reply v { code := .state }
    else ((s.putPosition p new).positionChanged p old new).reply v { code := .done, w5 := packNat old.hand.length }

/-- POSITION (R28). -/
def execPositionSlip (s : State) : Host.Outcome State Fault Refusal := .next (s.serve .position State.positionSlip)

/-- DESK (R29): a desk's name and MAKEUP (the order of its two BADARG tests: log 44). -/
def execDeskSlip (s : State) : Host.Outcome State Fault Refusal :=
  .next (s.serve .desk fun v s =>
    let d := (v.word 1).toNat
    let makeup := byteAt (v.word 4) 0
    if 15 < d then s.reply v { code := .badarg, d1 := 1 }
    else if 1 < makeup then s.reply v { code := .badarg, d1 := 4 }
    else
      let name := ((v.bytesFrom 2 2).take 6).map slugByte
      let old := s.deskEntry d
      let s := s.putDeskEntry d ⟨name, makeup == 1⟩
      let s := if old.name = name then s else (s.positionsWhere fun q => q.desk == d).foldl (fun s p => s.markRow p basketRow) s
      s.reply v { code := .done })

/-! ### OPEN, EXTEND and the fills -/

/-- R22: the Slip Unit begins to fill blocks. -/
def State.startFill (s : State) (v : Service) (n : Nat) (blocks : List Nat) (u : Undo) : State :=
  s.withSlip { s.slip with service := some { v with phase := .filling n blocks 0, undo := u }, request := some (.fill (chainAddr blocks 0)) }

/-- R30: OPEN, handed over. -/
def State.openStory (v : Service) (s : State) : State :=
  match s.freeEntry with
  | none => s.reply v { code := .full }
  | some n =>
    if Config.handSize ≤ (s.position v.position).hand.length then s.reply v { code := .full }
    else match s.allocate 1 with
      | none => s.reply v { code := .noblocks }
      | some blocks =>
        let t := s.putStory n { slug := makeSlug (v.bytesFrom 1 3), entryTime := s.clock.tod }
        ((t.joinFilling n blocks).enterHand n v.position).startFill v n blocks (.freeStory n)

/-- OPEN (R30). -/
def execOpenSlip (s : State) : Host.Outcome State Fault Refusal := .next (s.serve .openStory State.openStory)

/-- R31: EXTEND, handed over. -/
def State.extendStory (v : Service) (s : State) : State :=
  let n := (v.word 1).toNat
  let k := (v.word 2).toNat
  let len := (s.story n).chain.length
  if !s.names n then s.reply v { code := .nostory }
  else if (s.story n).custody ≠ .held v.position then s.reply v { code := .notholder }
  else if k < 1 ∨ 8 < k then s.reply v { code := .badarg, d1 := 2 }
  else if s.locked n then s.reply v { code := .locked }
  else if Config.maxChain < len + k then s.reply v { code := .toolong }
  else match s.allocate k with
    | none => s.reply v { code := .noblocks }
    | some blocks => (s.joinFilling n blocks).startFill v n blocks (.shorten n len false)

/-- EXTEND (R31), held for a locked pair on the story (R8, log 15). -/
def execExtendSlip (s : State) : Host.Outcome State Fault Refusal :=
  .next (s.serveUnlocked .extend (fun v => (v.word 1).toNat) State.extendStory)

/-- R22, R30, R31: the last fill line has been written: the filling field goes, the length notices go out and the slip is answered. -/
def State.fillEnded (s : State) (v : Service) (n : Nat) (blocks : List Nat) : State :=
  let s := (s.putStory n { s.story n with filling := none }).lengthNotices n
  match v.undo with
  | .shorten m len _ =>
    s.reply { v with undo := .shorten m len true }
      { code := .done, w5 := packNat (blocks.headD 0), w6 := packNat (s.story n).chain.length }
  | _ => s.reply v { code := .done, w5 := packNat n, w6 := packNat (blocks.headD 0) }

/-- A line of fill bytes. -/
def fillLine : List Byte := List.replicate Config.lineBytes 0

/-- SLIP_FILL_GRANT (R22, R30, R31): one copy line of fill is written; the next is asked for, or the fill ends. -/
def execSlipFillGrant (s : State) : Host.Outcome State Fault Refusal :=
  .next (match s.path.port with
    | some (.slip (.fill a)) =>
      let t := s.freePort.ownWrite a fillLine
      match s.path.orphan, t.slip.service with
      | false, some v =>
        match v.phase with
        | .filling n blocks k =>
          if k + 1 < Config.linesPerBlock * blocks.length then
            t.withSlip { t.slip with
              service := some { v with phase := .filling n blocks (k + 1) }, request := some (.fill (chainAddr blocks (k + 1))) }
          else t.fillEnded v n blocks
        | _ => t
      | _, _ => t
    | _ => s)

/-! ### TRIM -/

/-- R32: TRIM, handed over. -/
def State.trimStory (v : Service) (s : State) : State :=
  let n := (v.word 1).toNat
  let k := (v.word 2).toNat
  let st := s.story n
  if !s.names n then s.reply v { code := .nostory }
  else if st.custody ≠ .held v.position then s.reply v { code := .notholder }
  else if k < 1 ∨ Config.maxChain < k then s.reply v { code := .badarg, d1 := 2 }
  else if s.locked n then s.reply v { code := .locked }
  else if st.chain.length ≤ k then s.reply v { code := .done, w5 := packNat st.chain.length }
  else
    let t := (s.freeBlocks (st.chain.drop k)).putStory n { st with chain := st.chain.take k, filling := st.filling.filter (· < k) }
    let t := t.lengthNotices n
    let t := if st.placements.isEmpty then t else t.send (.pageLength n (t.story n).filled)
    t.reply v { code := .done, w5 := packNat k, w6 := packNat (st.chain.length - k) }

/-- TRIM (R32), held for a locked pair on the story (R8, log 15). -/
def execTrimSlip (s : State) : Host.Outcome State Fault Refusal :=
  .next (s.serveUnlocked .trim (fun v => (v.word 1).toNat) State.trimStory)

/-! ### ADOPT -/

/-- The operands of ADOPT (R33). -/
def Service.adoptCount (v : Service) : Nat := byteAt (v.word 2) 0
def Service.adoptToBasket (v : Service) : Bool := byteAt (v.word 2) 1 == 1
def Service.adoptTarget (v : Service) : Nat := byteAt (v.word 2) 2

/-- R33: ADOPT, handed over. -/
def State.adoptStory (v : Service) (s : State) : State :=
  let a := (v.word 1).toNat
  let count := v.adoptCount
  if count < 1 ∨ 64 < count ∨ 1 < byteAt (v.word 2) 1 ∨ (if v.adoptToBasket then 15 else 127) < v.adoptTarget ∨ 2 < byteAt (v.word 2) 3 then
    s.reply v { code := .badarg, d1 := 2 }
  else if a % 4 ≠ 0 ∨ !(List.range count).all (fun i => s.region (a + 4 * i) == .openArea) then s.reply v { code := .badarg, d1 := 1 }
  else if !v.adoptToBasket ∧ !(s.position v.adoptTarget).inUse then s.reply v { code := .nopos }
  else s.withSlip { s.slip with service := some { v with phase := .listing [] }, request := some (.listRead a (min 16 count)) }

/-- ADOPT (R33). -/
def execAdoptSlip (s : State) : Host.Outcome State Fault Refusal := .next (s.serve .adopt State.adoptStory)

/-- R34: the cause why a list word fails, given the blocks listed before it; of several, the lowest-numbered (log 45). -/
def State.listWordFault (s : State) (earlier : List Nat) (w : Option Word) : Option Nat :=
  match w with
  | none => some 1
  | some w =>
    let b := w.toNat
    if 65536 ≤ b then some 2
    else if b < s.path.regions.copyFirst ∨ s.path.regions.copyFirst + s.path.regions.copyCount ≤ b then some 3
    else if earlier.contains b then some 4
    else if (s.blockEntry b).owner ≠ 0 then some 5
    else none

/-- R34: the first failing list word: its index and cause. -/
def State.listFault (s : State) : Nat → List Nat → List (Option Word) → Option (Nat × Nat)
  | _, _, [] => none
  | i, earlier, w :: r =>
    match s.listWordFault earlier w with
    | some c => some (i, c)
    | none => s.listFault (i + 1) (earlier ++ [(w.getD 0).toNat]) r

/-- R34: the ADOPT is decided. -/
def State.adoptDecision (s : State) (v : Service) (words : List (Option Word)) : State :=
  let blocks := words.map fun w => (Option.getD w 0).toNat
  match s.listFault 0 [] words with
  | some (i, c) => s.reply v { code := .badarg, d1 := i, d2 := c }
  | none =>
    match s.freeEntry with
    | none => s.reply v { code := .full }
    | some n =>
      if !v.adoptToBasket ∧ Config.handSize ≤ (s.position v.adoptTarget).hand.length then s.reply v { code := .full }
      else
        let t := (s.putStory n
          { slug := makeSlug (v.bytesFrom 3 3), cls := classOf (byteAt (v.word 2) 3), chain := blocks, entryTime := s.clock.tod }).ownBlocks n 0 blocks
        let t := if v.adoptToBasket then t.enterBasket n v.adoptTarget else t.enterHand n v.adoptTarget
        t.reply { v with undo := .freeStory n } { code := .done, w5 := packNat n, w6 := packNat blocks.length }

/-- ADOPT_LIST_READ (R33, R34): the list words of a grant have been read; the next are asked for, or the ADOPT is decided. -/
def execAdoptListRead (s : State) : Host.Outcome State Fault Refusal :=
  .next (match s.path.port with
    | some (.slip (.listRead a n)) =>
      let r := s.freePort.ownRead slipRead a n
      let t := r.1
      match s.path.orphan, t.slip.service with
      | false, some v =>
        match v.phase with
        | .listing got =>
          let words := got ++ r.2
          if words.length < v.adoptCount then
            t.withSlip { t.slip with
              service := some { v with phase := .listing words }
              request := some (.listRead (a + 4 * n) (min 16 (v.adoptCount - words.length))) }
          else t.adoptDecision v words
        | _ => t
      | _, _ => t
    | _ => s)

/-! ### STORYSTAT -/

/-- R35: the flags of word 5 byte 2. -/
def State.storyFlags (s : State) (n : Nat) : Nat :=
  let st := s.story n
  st.truncated.toNat + 2 * st.gapped.toNat + 4 * (s.locked n).toNat + 8 * st.bracketRef.isSome.toNat

/-- STORYSTAT (R35). -/
def execStorystatSlip (s : State) : Host.Outcome State Fault Refusal :=
  .next (s.serve .storystat fun v s =>
    let n := (v.word 1).toNat
    let st := s.story n
    if n < 1 ∨ Config.storyCount < n then s.reply v { code := .badarg, d1 := 1 }
    else if st.custody = .free then s.reply v { code := .done }
    else s.reply v
      { code := .done, d1 := st.custody.number, d2 := st.custody.place, d3 := st.cls.number,
        w5 := packBytes st.chain.length (st.chain.length - st.filled) (s.storyFlags n) st.fit.state.number,
        w6 := packBytes st.lastBracket.number st.placements.length (st.fit.lines % 256) (st.fit.lines / 256) })

/-! ### Warm restart (R36) -/

/-- R36: a partial OPEN, EXTEND or ADOPT is undone. -/
def State.undoSlip (s : State) (u : Undo) : State :=
  match u with
  | .nothing => s
  | .freeStory n => s.freeStory n
  | .shorten n len noticed =>
    let st := s.story n
    let t := (s.freeBlocks (st.chain.drop len)).putStory n { st with chain := st.chain.take len, filling := none }
    if noticed then t.lengthNotices n else t

end Sys2Proof.Machine
end

