-- ==== Sys2Proof/Machine/IntakeUnit.lean ====
section
/-! DEFINITION. The Intake Unit (chapter 8): the receiver of each wire line, its FIFO, the assembler, copy lines and blocks, endings and
delivery, and the line slips. -/

namespace Sys2Proof.Machine

/-! ### The FIFO (R133) -/

/-- R133: pending markers enter the FIFO while it has room, in the order in which their flags were set. -/
def Line.flush (l : Line) : Line :=
  let room := Config.fifoSize - l.fifo.length
  { l with fifo := l.fifo ++ (l.marks.take room).map .mark, marks := l.marks.drop room }

/-- R133: a marker becomes pending, or enters the FIFO at once; nothing while its own flag is pending. -/
def Line.setMark (l : Line) (m : Marker) : Line := if l.marks.contains m then l else { l with marks := l.marks ++ [m] }.flush

/-- R132: a received character or a break sets the silence time to 0. -/
def Line.heard (l : Line) : Line := { l with silenceTime := 0, silenced := false, silenceDue := false }

def count16Up (n : Nat) : Nat := satAdd Config.count16 n 1

/-- A record to the WIRE bank with the line as its location (R131, Table 8-1). -/
def State.wireRecord (s : State) (code k : Nat) (uncorrected : Bool) : State := s.report .wire code k uncorrected

/-- R133: a character appended to the FIFO, or lost. -/
def State.appendChar (s : State) (k : Nat) (v : Byte) (spoiled : Bool) : State :=
  let l := (s.line k).flush
  if l.fifo.length < Config.fifoSize then s.putLine k { l with fifo := l.fifo ++ [.char v spoiled] }
  else
    let t := s.putLine k { l.setMark .gap with lost := count16Up l.lost }
    if l.marks.contains .gap then t else t.wireRecord wireOverflow k true

/-! ### The receiver (R131, R132) -/

/-- R131: a character received. -/
def State.receive (s : State) (k : Nat) (v : Byte) (spoiled : Bool) : State :=
  let l := (s.line k).heard
  let s := s.putLine k { l with received := count16Up l.received, spoiled := if spoiled then count16Up l.spoiled else l.spoiled }
  let s := if spoiled then s.wireRecord wireSpoiled k false else s
  s.appendChar k v spoiled

/-- R130: the settings a frame is received under: those it began with. -/
def Line.format (l : Line) (f : WireFrame) : LineFormat := f.begun.getD ⟨l.rate, l.dataBits, l.parity, l.stopBits⟩

/-- R131: the character value of a frame. -/
def frameValue (fmt : LineFormat) (f : WireFrame) : Byte := if fmt.dataBits = 7 then BitVec.ofNat 8 (f.bits.toNat % 128) else f.bits

/-- R131: the parity bit disagrees with the parity setting over the data bits. -/
def parityWrong (fmt : LineFormat) (f : WireFrame) : Bool :=
  let sum := (ones 8 (frameValue fmt f).toNat + f.parityBit.toNat) % 2
  (fmt.parity == 1 && sum == 1) || (fmt.parity == 2 && sum == 0)

/-- CHARACTER (R131): a frame at its first stop bit; one with that bit at space is held back. A frame begun before a LINEHOLD is received. -/
def execCharacter (line : Fin 8) (frame : WireFrame) (s : State) : Host.Outcome State Fault Refusal :=
  let l := s.line line
  let fmt := l.format frame
  .next (if s.active ∧ l.enable ∧ (!l.held ∨ frame.begun.isSome) ∧ l.heldFrame = none ∧ !l.breakTaken then
    if frame.stopMark then s.receive line (frameValue fmt frame) (parityWrong fmt frame)
    else s.putLine line { l with heldFrame := some (frameValue fmt frame) }
  else s)

/-- R132: a break is taken: counted, its marker set and any frame held back dropped. -/
def Line.takeBreak (l : Line) : Line := { l.heard with breaks := count16Up l.breaks, heldFrame := none }.setMark .brk

/-- BREAK (R132): the line has stood at space for two character times. On a held line (R143) a break is ignored, but for the one that a frame held
back (R131) from before the LINEHOLD turns into, which is taken and counted (log 64). -/
def execWireBreak (line : Fin 8) (s : State) : Host.Outcome State Fault Refusal :=
  let l := s.line line
  .next (if s.active ∧ l.enable ∧ (!l.held ∨ l.heldFrame.isSome) ∧ !l.breakTaken then
    s.putLine line { l.takeBreak with breakTaken := true }
  else s)

/-- RETURN_TO_MARK (R131, R132): a frame held back is received as spoiled; after a break the receiver may take another. -/
def execReturnToMark (line : Fin 8) (s : State) : Host.Outcome State Fault Refusal :=
  let l := s.line line
  .next (match l.heldFrame with
    | some v => (s.putLine line { l with heldFrame := none }).receive line v true
    | none => s.putLine line { l with breakTaken := false })

/-- R132: a silence is taken. -/
def State.takeSilence (s : State) (k : Nat) : State :=
  let l := s.line k
  if s.active && l.enable && !l.held && l.silenceDue then
    s.putLine k ({ l with silenceDue := false, silenced := true }.setMark .silence)
  else s

/-- SILENCE (R132). -/
def execSilence (line : Fin 8) (s : State) : Host.Outcome State Fault Refusal := .next (s.takeSilence line)

/-- R130, R132: the data bytes of a write of a line's settings, clamped; clearing the enable of an ACTIVE part's line is taken as a break (log 27),
also while a break has been taken and the line still stands at space (log 71). -/
def State.writeWireLine (s : State) (index : Byte) (data : List Byte) : State :=
  match data with
  | rate :: dataBits :: parity :: stopBits :: desk :: enable :: _ =>
    let k := clamp 0 7 index.toNat
    let l := s.line k
    let new := { l with
      rate := clamp 0 6 rate.toNat, dataBits := clamp 7 8 dataBits.toNat, parity := clamp 0 2 parity.toNat
      stopBits := clamp 1 2 stopBits.toNat, desk := clamp 0 15 desk.toNat, enable := enable != 0 }
    s.putLine k (if l.enable && enable == 0 then (if s.active then new.takeBreak else { new with heldFrame := none }) else new)
  | _ => s

/-- WIRE_LINE_WRITE (R130, R132). -/
def execWireLineWrite (index : Byte) (data : List Byte) (s : State) : Host.Outcome State Fault Refusal := .next (s.writeWireLine index data)

/-! ### Marks, buffers and blocks (sections 8.3 to 8.5) -/

/-- R141: the TRUNCATED mark of a story is set, with a mark notice when it was clear. -/
def State.setTruncated (s : State) (n : Nat) : State :=
  if (s.story n).truncated then s else (s.putStory n { s.story n with truncated := true }).send (.mark n)

/-- R141: the GAPPED mark. -/
def State.setGapped (s : State) (n : Nat) : State :=
  if (s.story n).gapped then s else (s.putStory n { s.story n with gapped := true }).send (.mark n)

/-- The free positions of a buffer made 00h. -/
def fillUp (l : List Byte) : List Byte := (l ++ List.replicate Config.lineBytes 0).take Config.lineBytes

/-- R140: no room is left: the buffer, and any header characters still to be taken as body, are dropped (log 21, log 22); so are the bytes
that a wrap carried to the next buffer (log 53). -/
def State.truncateTake (s : State) (k : Nat) : State :=
  let l := s.line k
  let s := s.putLine k
    { l with
      full := none, buf := [], backlog := [], discarded := satAdd Config.count16 l.discarded (Config.lineBytes + l.backlog.length)
      take := if l.take = .ending then .ending else .truncating }
  s.setTruncated l.story

/-- R137, R139, R140: a buffer completes for its copy line, with the bytes carried to the next; a block is asked for when it needs one. -/
def State.completeBuffer (s : State) (k : Nat) (bytes carried : List Byte) : State :=
  let l := s.line k
  let s := s.putLine k { l with full := some bytes, buf := carried }
  let chain := (s.story l.story).chain
  if Config.maxChain * Config.linesPerBlock ≤ l.copyLine then s.truncateTake k
  else if l.copyLine / Config.linesPerBlock < chain.length then s
  else match s.allocate 1 with
    | some [b] =>
      let s := s.joinFilling l.story [b]
      s.putLine k { s.line k with fill := some (b, 0) }
    | _ => s.truncateTake k

/-- R137: the last position from 32 to 62 that holds a space. -/
def wrapPoint (buf : List Byte) : Option Nat := ((List.range' 32 31).filter fun i => buf.getD i 0 == 0x20).getLast?

/-- R137: a mapped byte is placed in the buffer. -/
def State.placeByte (s : State) (k : Nat) (b : Byte) : State :=
  let l := s.line k
  let bytes := l.buf ++ [b]
  if b = 0x01 then s.completeBuffer k (fillUp bytes) []
  else if bytes.length < Config.lineBytes then s.putLine k { l with buf := bytes }
  else
    match (if 0x21 ≤ b.toNat then wrapPoint l.buf else none) with
    | some q => s.completeBuffer k (fillUp (l.buf.take (q + 1))) (l.buf.drop (q + 1) ++ [b])
    | none => s.completeBuffer k bytes []

/-- R136: a body character as it is placed. -/
def mapBody (v : Byte) (spoiled : Bool) : Option Byte :=
  if spoiled then some 0x7F
  else if v = 0x0D then some 0x01
  else if v = 0x09 then some 0x20
  else if 0x20 ≤ v.toNat ∧ v.toNat ≤ 0x7E then some v
  else none

/-- R136: a character taken in BODY, or a character of a failed header. -/
def State.bodyChar (s : State) (k : Nat) (v : Byte) (spoiled : Bool) : State :=
  match mapBody v spoiled with
  | some b => s.placeByte k b
  | none => s

/-- R138: a write request of a line. -/
def State.askWrite (s : State) (k : Nat) (r : IntakeReq) : State :=
  let s := s.putLine k { s.line k with outstanding := true }
  s.withIntake { s.intake with requests := s.intake.requests ++ [r] }

/-- R138: the complete buffer handed to the store. -/
def State.handBuffer (s : State) (k : Nat) (bytes : List Byte) : State :=
  let l := s.line k
  let s := s.putLine k { l with full := none, copyLine := l.copyLine + 1 }
  s.askWrite k ⟨k, l.story, l.copyLine, chainAddr (s.story l.story).chain l.copyLine, false, bytes⟩

/-- R139: the next fill write of a block being filled, when the line has no request outstanding. -/
def State.askFill (s : State) (k : Nat) : Option State :=
  let l := s.line k
  match l.fill, l.outstanding with
  | some (b, i), false =>
    some (s.askWrite k ⟨k, l.story, i, b * Config.blockBytes + i * Config.lineBytes, true, List.replicate Config.lineBytes 0⟩)
  | _, _ => none

/-- What a line does next without a new entry: a fill write (R139), the waiting buffer (R138), a header character taken as body (R135), or the
last buffer of an ended take (R142). -/
def State.pumpLine (k : Nat) : Nat → State → State
  | 0, s => s
  | fuel + 1, s =>
    match s.askFill k with
    | some t => State.pumpLine k fuel t
    | none =>
      let l := s.line k
      match l.full, l.backlog with
      | some bytes, _ =>
        if l.outstanding ∨ (s.story l.story).filled ≤ l.copyLine / Config.linesPerBlock then s
        else State.pumpLine k fuel (s.handBuffer k bytes)
      | none, (v, spoiled) :: r => State.pumpLine k fuel ((s.putLine k { l with backlog := r }).bodyChar k v spoiled)
      | none, [] =>
        if l.take = .ending ∧ l.buf ≠ [] then State.pumpLine k fuel (s.completeBuffer k (fillUp l.buf) []) else s

/-- The most that a line can do without a new entry: three steps for each header character, and the last buffers (log 22). -/
def State.advanceLine (s : State) (k : Nat) : State := State.pumpLine k (3 * (s.line k).backlog.length + 8) s

/-! ### Takes (section 8.3) -/

/-- R134: the slug WIRE and the line digit. -/
def wireSlug (k : Nat) : List Byte := makeSlug (ascii "WIRE" ++ [digit k])

/-- R134: a take starts, or its characters are to be discarded. -/
def State.startTake (s : State) (k : Nat) : State :=
  match s.freeEntry, s.allocate 1 with
  | some n, some [b] =>
    let s := s.putStory n { custody := .intake k, slug := wireSlug k, entryTime := s.clock.tod }
    let s := s.joinFilling n [b]
    let s := s.putLine k
      { s.line k with
        take := .header, story := n, cls := .routine, header := [], buf := [], full := none, copyLine := 0, backlog := [], fill := some (b, 0) }
    s.advanceLine k
  | _, _ =>
    let s := s.putLine k { s.line k with take := .discarding, story := 0, takesLost := count16Up (s.line k).takesLost }
    s.wireRecord wireNoStory k true

/-- R135: the class of a header by its first stored character. -/
def headerClass : List (Byte × Bool) → StoryClass
  | (c, false) :: _ => if c = 0x46 ∨ c = 0x42 then .flash else if c = 0x55 then .urgent else .routine
  | _ => .routine

/-- R135: a header character as a slug byte: a spoiled one is stored as 20h. -/
def slugChar (c : Byte × Bool) : Byte := if c.2 then 0x20 else c.1

/-- HEADER_END (R135): 0Dh ends the header. -/
def State.headerEnd (s : State) (k : Nat) : State :=
  let l := s.line k
  let n := l.story
  let cls := headerClass l.header
  let slug := if l.header.length ≤ 1 then wireSlug k else makeSlug ((l.header.tail).map slugChar)
  (s.putStory n { s.story n with cls, slug }).putLine k { l with take := .body, cls, header := [] }

/-- R135: the stored header characters are to be taken as body, under the slug NOSLUG. -/
def State.headerAsBody (s : State) (k : Nat) : State :=
  let l := s.line k
  let s := if l.header = [] then s
    else s.putStory l.story { s.story l.story with cls := .routine, slug := makeSlug (ascii "NOSLUG") }
  s.putLine k { l with cls := .routine, backlog := l.header, header := [] }

/-- HEADER_FAILED (R135): the 200th header character without 0Dh. -/
def State.headerFailed (s : State) (k : Nat) : State :=
  let s := s.headerAsBody k
  (s.putLine k { s.line k with take := .body }).advanceLine k

/-- R135: a character of the header. -/
def State.headerChar (s : State) (k : Nat) (v : Byte) (spoiled : Bool) : State :=
  let l := s.line k
  let s := s.putLine k { l with header := l.header ++ [(v, spoiled)] }
  if Config.headerSize ≤ l.header.length + 1 then s.headerFailed k else s

/-- TAKE_ENDING (R141, R142): a take ends; from HEADER its header store is first taken as body. -/
def State.endTake (s : State) (k : Nat) (truncated startPending : Bool) : State :=
  let s := if (s.line k).take = .header then s.headerAsBody k else s
  let s := s.putLine k { s.line k with take := .ending, startPending }
  (if truncated then s.setTruncated (s.line k).story else s).advanceLine k

/-- R134: a character discarded and counted. -/
def State.discardChar (s : State) (k : Nat) : State :=
  s.putLine k { s.line k with discarded := count16Up (s.line k).discarded }

/-- The line's assembler goes to IDLE, with no story and copy line 0 (log 55). -/
def State.idleLine (s : State) (k : Nat) : State :=
  s.putLine k { s.line k with take := .idle, story := 0, copyLine := 0, buf := [], full := none }

/-- R134 to R136, R141: a character taken by take state. -/
def State.takeChar (s : State) (k : Nat) (v : Byte) (spoiled : Bool) : State :=
  let is := fun c => !spoiled && v == c
  match (s.line k).take with
  | .idle => if is 0x02 then s.startTake k else s.discardChar k
  | .header =>
    if is 0x0D then s.headerEnd k
    else if is 0x03 then s.endTake k false false
    else if is 0x02 then s.endTake k true true
    else s.headerChar k v spoiled
  | .body =>
    if is 0x03 then s.endTake k false false
    else if is 0x02 then s.endTake k true true
    else (s.bodyChar k v spoiled).advanceLine k
  | .truncating =>
    if is 0x03 then s.endTake k false false
    else if is 0x02 then s.endTake k false true
    else s.discardChar k
  | .discarding =>
    if is 0x03 then s.idleLine k
    else if is 0x02 then s.startTake k
    else s.discardChar k
  | .ending => s

/-- R141: a marker taken by take state. -/
def State.takeMarker (s : State) (k : Nat) (m : Marker) : State :=
  let l := s.line k
  match m, l.take with
  | .gap, .header | .gap, .body | .gap, .truncating => s.setGapped l.story
  | .gap, .idle | .gap, .discarding | .gap, .ending => s
  | .brk, .header | .brk, .body | .silence, .header | .silence, .body => s.endTake k true false
  | .brk, .truncating | .silence, .truncating => s.endTake k false false
  | .brk, .discarding | .silence, .discarding => s.idleLine k
  | .brk, .idle | .silence, .idle | .brk, .ending | .silence, .ending => s

/-- The assembler is not stalled: no ending, no complete buffer and no header character waits (R138, R142). -/
def State.assembling (s : State) (k : Nat) : Bool :=
  let l := s.line k
  s.active && l.take != .ending && l.full.isNone && l.backlog.isEmpty

/-- The head entry leaves the FIFO, and pending markers take the room (R133). -/
def State.takeEntry (s : State) (k : Nat) : State := s.putLine k { s.line k with fifo := (s.line k).fifo.tail }.flush

/-- ASSEMBLER_CHARACTER (R134 to R136). -/
def execAssemblerCharacter (line : Fin 8) (s : State) : Host.Outcome State Fault Refusal :=
  .next (if s.assembling line then
    match (s.line line).fifo with
    | .char v spoiled :: _ => (s.takeEntry line).takeChar line v spoiled
    | _ => s
  else s)

/-- ASSEMBLER_MARKER (R141). -/
def execAssemblerMarker (line : Fin 8) (s : State) : Host.Outcome State Fault Refusal :=
  .next (if s.assembling line then
    match (s.line line).fifo with
    | .mark m :: _ => (s.takeEntry line).takeMarker line m
    | _ => s
  else s)

/-! ### Grants and delivery -/

/-- INTAKE_WRITE_GRANT (R138): a copy line has been written. -/
def execIntakeWriteGrant (s : State) : Host.Outcome State Fault Refusal :=
  .next (match s.path.port with
    | some (.intake r) =>
      if r.fill then s
      else
        let t := s.freePort.ownWrite r.addr r.bytes
        if s.path.orphan then t
        else ((t.send (.screenLine r.story r.copyLine)).putLine r.line { t.line r.line with outstanding := false }).advanceLine r.line
    | _ => s)

/-- R139, R22: the last fill line of a block has been written. -/
def State.blockFilled (s : State) (k : Nat) : State :=
  let n := (s.line k).story
  let s := s.putLine k { s.line k with fill := none }
  let s := s.putStory n { s.story n with filling := none }
  s.send (.screenLength n (s.story n).filled)

/-- INTAKE_FILL_GRANT (R139): a fill line has been written; the next is asked for, or the block is filled. -/
def execIntakeFillGrant (s : State) : Host.Outcome State Fault Refusal :=
  .next (match s.path.port with
    | some (.intake r) =>
      if !r.fill then s
      else
        let t := s.freePort.ownWrite r.addr r.bytes
        if s.path.orphan then t
        else
          let l := { t.line r.line with outstanding := false }
          match l.fill with
          | some (b, i) =>
            if i + 1 < Config.linesPerBlock then (t.putLine r.line { l with fill := some (b, i + 1) }).advanceLine r.line
            else ((t.putLine r.line l).blockFilled r.line).advanceLine r.line
          | none => t.putLine r.line l
    | _ => s)

/-- R142: an ended take is ready for delivery. -/
def Line.deliverable (l : Line) : Bool :=
  l.take == .ending && l.backlog.isEmpty && l.full.isNone && l.buf.isEmpty && !l.outstanding && l.fill.isNone

/-- DELIVERY (R142): the story joins its desk's basket; a pending start begins a new take. -/
def execDelivery (line : Fin 8) (s : State) : Host.Outcome State Fault Refusal :=
  let l := s.line line
  let n := l.story
  .next (if s.active && l.deliverable then
    let truncated := (s.story n).truncated
    let s := (s.putStory n { s.story n with cls := l.cls }).enterBasket n l.desk
    let s := s.putLine line
      { l with delivered := count16Up l.delivered, takesTruncated := if truncated then count16Up l.takesTruncated else l.takesTruncated }
    let s := s.idleLine line
    if l.startPending then (s.putLine line { s.line line with startPending := false }).startTake line else s
  else s)

/-! ### Line slips (section 8.6) -/

/-- R143: the result of a LINEHOLD or LINERESUME that acts. -/
def Line.slipResult (l : Line) : Result := { code := .done, w5 := packNat l.take.number, w6 := packNat l.story }

/-- LINEHOLD (R143). -/
def execLineholdSlip (s : State) : Host.Outcome State Fault Refusal :=
  .next (s.serve .linehold fun v s =>
    let k := byteAt (v.word 1) 0
    let l := s.line k
    if 7 < k then s.reply v { code := .badarg, d1 := 1 }
    else if l.held then s.reply v { code := .ignored }
    else (s.putLine k { l with held := true }).reply v l.slipResult)

/-- LINERESUME (R143): the silence time becomes 0. -/
def execLineresumeSlip (s : State) : Host.Outcome State Fault Refusal :=
  .next (s.serve .lineresume fun v s =>
    let k := byteAt (v.word 1) 0
    let l := s.line k
    if 7 < k then s.reply v { code := .badarg, d1 := 1 }
    else if !l.held then s.reply v { code := .ignored }
    else (s.putLine k { l with held := false, silenceTime := 0, silenceDue := false }).reply v l.slipResult)

/-- R144: part 0 of LINESTAT. -/
def State.lineSummary (s : State) (k : Nat) : Result :=
  let l := s.line k
  let st := s.story l.story
  let bytes := match l.full with
    | some b => b.length
    | none => l.buf.length
  { code := .done, d1 := l.take.number,
    d2 := l.enable.toNat + 2 * l.held.toNat + 4 * st.truncated.toNat + 8 * st.gapped.toNat,
    w5 := packHalves l.story l.fifo.length, w6 := packBytes (l.copyLine % 256) (l.copyLine / 256) bytes 0 }

/-- R144: parts 1 and 2 of LINESTAT. -/
def Line.counters (l : Line) (part : Nat) : Result :=
  if part = 1 then { code := .done, w5 := packHalves l.received l.spoiled, w6 := packHalves l.lost l.discarded }
  else { code := .done, w5 := packHalves l.delivered l.takesLost, w6 := packHalves l.takesTruncated l.breaks }

/-- R144: the eight counters of a line set to 0. -/
def Line.clearCounters (l : Line) : Line :=
  { l with received := 0, spoiled := 0, lost := 0, discarded := 0, delivered := 0, takesLost := 0, takesTruncated := 0, breaks := 0 }

/-- LINESTAT (R144; BADARG before NOPRIV: log 54). -/
def execLinestatSlip (s : State) : Host.Outcome State Fault Refusal :=
  .next (s.serve .linestat fun v s =>
    let k := byteAt (v.word 1) 0
    let clear := byteAt (v.word 1) 1
    let part := byteAt (v.word 1) 2
    if 7 < k ∨ 1 < clear ∨ 2 < part then s.reply v { code := .badarg, d1 := 1 }
    else if clear = 1 ∧ !s.privileged v.agent then s.reply v { code := .nopriv }
    else if part = 0 then s.reply v (s.lineSummary k)
    else
      let l := s.line k
      (if clear = 1 then s.putLine k l.clearCounters else s).reply v (l.counters part))

/-! ### Restarts (R145, R146) -/

def lineNumbers : List Nat := List.range 8

/-- R145: a line's warm restart. -/
def State.warmLine (s : State) (k : Nat) : State :=
  let l := s.line k
  let chars := (l.fifo.filter fun e => match e with
    | .char .. => true
    | .mark _ => false).length
  let s := s.putLine k
    { l with
      fifo := [], marks := [], startPending := false, silenceTime := 0, silenceDue := false
      discarded := satAdd Config.count16 l.discarded chars }
  match l.take with
  | .header | .body => s.endTake k true false
  | .truncating => s.endTake k false false
  | .discarding => s.idleLine k
  | .idle | .ending => s

/-- R146: a line at its power-on values, but for its settings and the level of its wire. -/
def State.clearLine (s : State) (k : Nat) : State :=
  let l := s.line k
  s.putLine k
    { rate := l.rate, dataBits := l.dataBits, parity := l.parity, stopBits := l.stopBits, desk := l.desk, enable := l.enable
      breakTaken := l.breakTaken }

/-- R146: every line cleared and the waiting requests withdrawn. -/
def State.clearIntake (s : State) : State :=
  let s := lineNumbers.foldl (fun s k => s.clearLine k) s
  s.withIntake { s.intake with requests := [] }

end Sys2Proof.Machine
end

