-- ==== Sys2Proof/Machine/LinkControllers.lean ====
section
/-! DEFINITION. The Link Controllers (chapter 7): turns and frames, sleep, wake and census, upstream frames, LINKSTAT, and the end of a Screen
fetch. -/

namespace Sys2Proof.Machine

/-! ### Drops, rows and frames -/

def dropNumbers : List Nat := List.range 8

/-- The drops of a link in a state, in ascending order. -/
def Link.dropsIn (l : Link) (st : DropState) : List Nat := dropNumbers.filter fun d => (l.drop d).state == st

/-- R113: the frame of a row. -/
def rowFrame (h : RowInHand) (chars : List Byte) : DownFrame :=
  if chars = spaces 64 then .blank h.drop h.row else .row h.drop h.row chars

/-- R117: the drops in the order of the turns, from the turn pointer. -/
def Link.turnOrder (l : Link) : List Nat :=
  (dropNumbers.map fun i => (l.turn + i) % 8).filter fun d => (l.drop d).state == .present

/-- R109, R117: a round of turns: the first present drop with a dirty row is served and the turn pointer moves past it. -/
def State.takeTurn (s : State) (k : Nat) : List Nat → Option State
  | [] => none
  | d :: r =>
    match s.fetchStart k d with
    | some t => some (t.putLink k { t.link k with turn := (d + 1) % 8 })
    | none => s.takeTurn k r

/-- R117: the row in hand is about to begin: sent, or given up, and marked again when its drop is no longer PRESENT. -/
def State.beginRow (s : State) (k : Nat) (h : RowInHand) (chars : List Byte) : State :=
  let l := s.link k
  let q := s.position h.position
  if !(q.inUse && q.link == k && q.drop == h.drop) then s.putLink k { l with hand := none }
  else if (l.drop h.drop).state ≠ .present then (s.putLink k { l with hand := none }).markRow h.position h.row
  else s.putLink k { l with frame := some (rowFrame h chars) }

/-- The frame of a row is on the downstream pair. -/
def Link.rowOnPair (l : Link) : Bool :=
  match l.frame with
  | some (.row ..) => true
  | some (.blank ..) => true
  | _ => false

/-- R109, R117: an AWAKE link with no row in hand, and none on its pair, takes its next turn, whatever control frame is being sent or waits. A
whole round of turns that finds no row stops the turns. -/
def State.nextTurn (s : State) (k : Nat) : State :=
  let l := s.link k
  if l.state == .awake && l.turning && l.hand.isNone && !l.rowOnPair then
    match s.takeTurn k l.turnOrder with
    | none => s.putLink k { l with turning := false }
    | some t => t
  else s

/-- R117: on the free pair of an AWAKE link the next control frame begins, or else the row in hand once its characters are there. -/
def State.nextDownFrame (s : State) (k : Nat) : State :=
  let l := s.link k
  match l.state, l.frame, l.control, l.hand with
  | .awake, none, f :: r, _ => s.putLink k { l with frame := some f, control := r }
  | .awake, none, [], some h =>
    match h.chars with
    | none => s
    | some chars => s.beginRow k h chars
  | _, _, _, _ => s

/-- R117: a turn where one is due, and the frame that can begin. -/
def State.serveTurn (s : State) (k : Nat) : State := (s.nextTurn k).nextDownFrame k

/-- R117: what an AWAKE link does next. A row given up at its frame leaves the turn to another, whose drop has just been found PRESENT with a
position on it, so that it is not given up in its turn. -/
def State.serveLink (s : State) (k : Nat) : State := (s.serveTurn k).serveTurn k

/-- R117: the link takes turns again from the turn pointer. -/
def State.startTurns (s : State) (k : Nat) : State := (s.putLink k { s.link k with turning := true }).serveLink k

/-- R118: the link is idle. -/
def State.linkIdle (s : State) (k : Nat) : Bool :=
  let l := s.link k
  l.state == .awake && l.hand.isNone && l.frame.isNone && l.control.isEmpty
    && (l.dropsIn .present).all fun d => match s.positionOn k d with
      | some p => s.dirtyMap p == 0
      | none => true

/-! ### Wakes (R120 to R123) -/

/-- R121: a wake try begins: the link is WAKING, every drop ABSENT, and the wake signal is driven. -/
def State.startWake (s : State) (k try_ : Nat) : State :=
  let l := s.link k
  let drops := l.drops.foldl (fun t e => tset (fun _ => {}) t e.1 { e.2 with state := .absent, answered := false }) []
  s.putLink k
    { l with
      state := .waking, wakeTry := try_, retryDue := false, sleepInProgress := false, wakePending := false, idleTime := 0, sleepDue := false
      drops, control := [], driving := true, window := none }

/-- R120: an event that calls a SLEEPING link. -/
def State.callWake (s : State) (k : Nat) : State :=
  let l := s.link k
  if l.sleepInProgress then s.putLink k { l with wakePending := true } else s.startWake k 1

/-- R123: an event that calls an OFF link. -/
def State.callRetry (s : State) (k : Nat) : State := if (s.link k).retryDue then s.startWake k 1 else s

/-- R123: an in-use position names the link. -/
def State.linkNamed (s : State) (k : Nat) : Bool := s.dir.positions.any fun e => e.2.inUse && e.2.link == k

/-- R121, R123: the answer window ends. -/
def State.endWindow (s : State) (k : Nat) : State :=
  let l := s.link k
  let present := l.dropsIn .present
  if present ≠ [] then
    let s := s.putLink k
      { l with state := .awake, wakeTry := 0, idleTime := 0, sleepDue := false, turn := 0, driving := false, control := [], window := none }
    (present.foldl (fun s d => s.markDrop k d allRows) s).startTurns k
  else if l.wakeTry < 3 then s.startWake k (l.wakeTry + 1)
  else
    let s := s.putLink k { l with state := .off, wakeTry := 0, retryDue := false, driving := false, control := [], window := none }
    if s.linkNamed k then s.report .screen wakeFail k true else s

/-- R123: a census of an AWAKE link's ABSENT drops, fixed as they stand now (log 49); nothing while one is waiting (log 50). -/
def State.census (s : State) (k : Nat) : State :=
  let l := s.link k
  if l.control.isEmpty then (s.putLink k { l with control := (l.dropsIn .absent).map .helloReq }).nextDownFrame k else s

/-! ### Commands of the downstream side -/

/-- DIRTY_NOTICE (R101, R117, R120, R121, R123): the oldest dirty notice to a link. -/
def execDirtyNotice (link : Fin 16) (s : State) : Host.Outcome State Fault Refusal :=
  .next (s.takeNotice (fun | .dirty k d => if k = link.val then some d else none | _ => none) fun d s =>
    match (s.link link).state with
    | .off => s.callRetry link
    | .waking => s
    | .awake => if ((s.link link).drop d).state = .present then s.startTurns link else s
    | .sleeping => s.callWake link)

/-- ROW_FRAME_END (R113, R117). -/
def execRowFrameEnd (link : Fin 16) (s : State) : Host.Outcome State Fault Refusal :=
  let l := s.link link
  let sent := { l with frame := none, hand := none, rowsSent := if s.active then satAdd Config.count16 l.rowsSent 1 else l.rowsSent }
  .next (match l.frame with
    | some (.row ..) => (s.putLink link sent).serveLink link
    | some (.blank ..) => (s.putLink link sent).serveLink link
    | _ => s)

/-- R119, R120: the next SLEEP frame, or the end of the sleep's frames. -/
def State.nextSleep (s : State) (k : Nat) : State :=
  let l := s.link k
  match l.control with
  | f :: r => s.putLink k { l with frame := some f, control := r }
  | [] => if l.wakePending then s.startWake k 1 else s.putLink k { l with sleepInProgress := false }

/-- SLEEP_FRAME_END (R119, R120). -/
def execSleepFrameEnd (link : Fin 16) (s : State) : Host.Outcome State Fault Refusal :=
  .next (match (s.link link).frame with
    | some (.sleep _) =>
      let s := s.putLink link { s.link link with frame := none }
      if (s.link link).state = .sleeping then s.nextSleep link else s.serveLink link
    | _ => s)

/-- R119: an idle link whose idle time has reached the setting goes to sleep. Its SLEEP frames go to the drops that are PRESENT in this event
(log 68). -/
def State.linkSleep (s : State) (k : Nat) : State :=
  let l := s.link k
  if l.sleepDue && s.linkIdle k then
    (s.putLink k
      { l with
        state := .sleeping, sleepInProgress := true, wakePending := false, sleepDue := false
        control := (l.dropsIn .present).map .sleep }).nextSleep k
  else s

/-- LINK_SLEEP (R119). -/
def execLinkSleep (link : Fin 16) (s : State) : Host.Outcome State Fault Refusal := .next (s.linkSleep link)

/-- WAKE_DRIVE_END (R121): the wake signal has been driven and the first HELLO-REQ begins. A frame left by a restart ends first (R128). -/
def execWakeDriveEnd (link : Fin 16) (s : State) : Host.Outcome State Fault Refusal :=
  let l := s.link link
  .next (if l.state = .waking ∧ l.driving ∧ l.frame = none then
    s.putLink link { l with driving := false, frame := some (.helloReq 0), control := (dropNumbers.drop 1).map .helloReq }
  else s)

/-- HELLO_REQ_END (R121, R123): the next HELLO-REQ, the answer window after the last, or, for a census, the next frame. -/
def execHelloReqEnd (link : Fin 16) (s : State) : Host.Outcome State Fault Refusal :=
  .next (match (s.link link).frame with
    | some (.helloReq _) =>
      let l := { s.link link with frame := none }
      match l.state with
      | .waking =>
        match l.driving, l.control with
        | false, f :: r => s.putLink link { l with frame := some f, control := r }
        | false, [] => s.putLink link { l with window := some 0 }
        | true, _ => s.putLink link l
      | .awake => (s.putLink link l).serveLink link
      | .off => s.putLink link l
      | .sleeping => s.putLink link l
    | _ => s)

/-- R121: the answer window has run its ticks. -/
def State.windowExpiry (s : State) (k : Nat) : State :=
  match (s.link k).state, (s.link k).window with
  | .waking, some n => if Config.windowTicks ≤ n then s.endWindow k else s
  | _, _ => s

/-- WAKE_WINDOW_END (R121). -/
def execWakeWindowEnd (link : Fin 16) (s : State) : Host.Outcome State Fault Refusal := .next (s.windowExpiry link)

/-- SCREEN_FETCH_GRANT (R110): the words of a text row have been read; the row is handed to its link. -/
def execScreenFetchGrant (s : State) : Host.Outcome State Fault Refusal :=
  .next (match s.path.port with
    | some (.screen q) =>
      let r := s.freePort.ownRead rowRead q.addr 16
      let s' := r.1
      match s.path.orphan, (s'.link q.link).hand with
      | false, some h => (s'.putLink q.link { s'.link q.link with hand := some { h with chars := some (rowFromWords r.2) } }).serveLink q.link
      | _, _ => s'
    | _ => s)

/-! ### Commands of the upstream side -/

/-- R122: the reported values of a HELLO stored in its drop record. -/
def Drop.reported (d : Drop) (b1 b2 : Nat) : Drop := { d with rows := b1 % 32, version := b1 / 32, columns := b2 }

/-- R122: a HELLO taken by a link in ACTIVE (a second, ill-formed one in a wake: log 51; an ill-formed one in AWAKE from a FAULTY drop makes it
ABSENT, by the table of R122 and against the words of R124: log 63; the turns of an AWAKE link: log 23). In OFF its values are
stored when it calls a wake; while retry-due is clear it does nothing (R123, log 39). -/
def State.takeHello (s : State) (k d b1 b2 : Nat) : State :=
  let l := s.link k
  let good := 24 ≤ b1 % 32 ∧ 64 ≤ b2
  let r := (l.drop d).reported b1 b2
  match l.state with
  | .waking =>
    let s := if good then s.putLink k (l.putDrop d { r with state := .present, answered := true, rowbad := 0 })
      else (s.putLink k (l.putDrop d { r with state := .absent, answered := true })).report .screen badHello (k * 8 + d) true
    if dropNumbers.all fun d => ((s.link k).drop d).answered then s.endWindow k else s
  | .awake =>
    if good then ((s.putLink k (l.putDrop d { r with state := .present, rowbad := 0 })).markDrop k d allRows).startTurns k
    else (s.putLink k (l.putDrop d { r with state := .absent })).report .screen badHello (k * 8 + d) true
  | .sleeping => s.callWake k
  | .off => if l.retryDue then (s.putLink k (l.putDrop d r)).callRetry k else s

/-- R116, R124: the ignored count raised. -/
def State.ignoreHeader (s : State) (k : Nat) : State :=
  s.putLink k { s.link k with ignored := satAdd Config.count8 (s.link k).ignored 1 }

/-- R124: a ROWBAD taken by a link in ACTIVE. -/
def State.takeRowbad (s : State) (k d row : Nat) : State :=
  let l := s.link k
  let r := l.drop d
  if (l.state = .awake ∨ l.state = .sleeping) ∧ r.state = .present ∧ row ≤ 23 then
    let n := r.rowbad + 1
    let faulty := Config.rowbadLimit ≤ n
    let s := s.putLink k (l.putDrop d { r with rowbad := min n Config.rowbadLimit, state := if faulty then .faulty else .present })
    let s := s.markDrop k d [row]
    if faulty then s.report .screen dropFaulty (k * 8 + d) true else s
  else s.ignoreHeader k

/-- R115: the corrected count raised for a corrected header. -/
def State.countCorrected (s : State) (k : Nat) (corrected : Bool) : State :=
  if corrected then s.putLink k { s.link k with corrected := satAdd Config.count16 (s.link k).corrected 1 } else s

/-- R115, R116: an upstream header of one sort: `k` handles the data bits of a header that is let through and that the row is about. -/
def State.takeHeader (s : State) (link : Nat) (h : BitVec 32) (mine : Nat → Bool) (k : BitVec 24 → State → State) : State :=
  match checkHeader h with
  | .used data corrected => if s.active && mine (headerKind data) then k data (s.countCorrected link corrected) else s
  | .discarded => s

/-- HELLO (R115, R122). -/
def execHello (link : Fin 16) (header : BitVec 32) (s : State) : Host.Outcome State Fault Refusal :=
  .next (s.takeHeader link header (· == 0x11) fun data s => s.takeHello link (headerDrop data) (headerByte1 data) (headerByte2 data))

/-- ROWBAD (R115, R124). -/
def execRowbad (link : Fin 16) (header : BitVec 32) (s : State) : Host.Outcome State Fault Refusal :=
  .next (s.takeHeader link header (· == 0x12) fun data s => s.takeRowbad link (headerDrop data) (headerByte1 data))

/-- WAKE (R116, R120, R121, R123). -/
def execWake (link : Fin 16) (s : State) : Host.Outcome State Fault Refusal :=
  .next (if s.active then
    match (s.link link).state with
    | .off => s.callRetry link
    | .waking => s
    | .awake => s.census link
    | .sleeping => s.callWake link
  else s)

/-- DISCARDED_HEADER (R115). -/
def execDiscardedHeader (link : Fin 16) (header : BitVec 32) (s : State) : Host.Outcome State Fault Refusal :=
  .next (if s.active ∧ checkHeader header = .discarded then
    s.putLink link { s.link link with discarded := satAdd Config.count16 (s.link link).discarded 1 }
  else s)

/-- IGNORED_UPSTREAM_FRAME (R115, R116): a header of a kind that is neither HELLO nor ROWBAD. -/
def execIgnoredUpstreamFrame (link : Fin 16) (header : BitVec 32) (s : State) : Host.Outcome State Fault Refusal :=
  .next (s.takeHeader link header (fun k => k != 0x11 && k != 0x12) fun _ s => s.ignoreHeader link)

/-! ### LINKSTAT (R127) -/

/-- R127: the PRESENT drops, bit d for drop d. -/
def Link.presentMask (l : Link) : Nat := ((l.dropsIn .present).map (2 ^ ·)).sum

/-- LINKSTAT (R127; BADARG before NOPRIV: log 61). -/
def execLinkstatSlip (s : State) : Host.Outcome State Fault Refusal :=
  .next (s.serve .linkstat fun v s =>
    let k := byteAt (v.word 1) 0
    let clear := byteAt (v.word 1) 1
    let part := byteAt (v.word 1) 2
    let drop := byteAt (v.word 1) 3
    let l := s.link k
    if 15 < k ∨ 1 < clear ∨ 1 < part ∨ 7 < drop then s.reply v { code := .badarg, d1 := 1 }
    else if clear = 1 ∧ !s.privileged v.agent then s.reply v { code := .nopriv }
    else if part = 0 then
      let s := if clear = 1 then s.putLink k { l with corrected := 0, discarded := 0, rowsSent := 0, ignored := 0 } else s
      s.reply v
        { code := .done, d1 := l.state.number, d2 := if l.state = .waking then l.wakeTry else 0, d3 := l.presentMask,
          w5 := packHalves l.corrected l.discarded, w6 := packBytes (l.rowsSent % 256) (l.rowsSent / 256) l.ignored 0 }
    else
      let d := l.drop drop
      s.reply v { code := .done, d1 := d.state.number, d2 := d.rowbad, w5 := packBytes d.rows d.columns d.version 0 })

/-! ### Restarts (R112, R128, R129) -/

/-- R112, R128: at a warm restart a link's row in hand is withdrawn and marked again: one composed at once that has not been sent, and one read
from the store whose frame has not begun. Where the frame of the row is on the pair, the manual does not say whether the row is withdrawn: a composed
row is marked again, and a row read from the store is not (log 66). -/
def State.withdrawHand (s : State) (k : Nat) : State :=
  let l := s.link k
  let s := s.putLink k { l with hand := none }
  match l.hand with
  | some h => if h.composed || !l.rowOnPair then s.markRow h.position h.row else s
  | none => s

/-- R128: a link's warm restart: a wake at try 1. The try begins in the event of the restart; the frame on the pair ends before its first HELLO-REQ
(log 69). -/
def State.warmLink (s : State) (k : Nat) : State := s.startWake k 1

/-- R129: a link at its power-on values, but for the frame in progress. -/
def State.clearLink (s : State) (k : Nat) : State := s.putLink k { frame := (s.link k).frame }

def linkNumbers : List Nat := List.range 16

end Sys2Proof.Machine
end

