-- ==== Sys2Proof/Machine/PageUnit.lean ====
section
/-! DEFINITION. The Page Unit (chapter 9): editions, the Page Table and its slips, the pick, setting locks, and attempt outcomes. -/

namespace Sys2Proof.Machine

/-! ### Editions (section 9.1) -/

/-- R148: an edition written, with the edition notice when it has changed (log 25). -/
def State.changeEdition (s : State) (e : Nat) (new : Edition) : State :=
  let old := s.editionOf e
  if new = old then s else (s.putEdition e new).send (.edition e (new.isOpen != old.isOpen))

/-- R148: the actions of EDITION. -/
def Edition.act (x : Edition) (action deadline : Nat) : Edition :=
  match action with
  | 0 => { x with deadline := some deadline }
  | 1 => { x with deadline := none }
  | 2 => { x with isOpen := true }
  | _ => { x with isOpen := false }

/-- EDITION (R48, R148; the operands of word 1 tested before the deadline of word 2: log 61). -/
def execEditionSlip (s : State) : Host.Outcome State Fault Refusal :=
  .next (s.serve .edition fun v s =>
    let e := byteAt (v.word 1) 0
    let action := byteAt (v.word 1) 1
    let t := (v.word 2).toNat
    if e < 1 ∨ 4 < e ∨ 3 < action then s.reply v { code := .badarg, d1 := 1 }
    else if action = 0 ∧ Config.secondsPerDay ≤ t then s.reply v { code := .badarg, d1 := 2 }
    else
      let new := (s.editionOf e).act action t
      (s.changeEdition e new).reply v
        { code := .done, w5 := packNat new.isOpen.toNat
          w6 := match new.deadline with
            | some d => packNat d
            | none => 0xFFFFFFFF })

/-- R147: the 1 s ticks not yet taken by the Page Unit for an edition are taken (log 13; a deadline that a slip has set meanwhile: log 56). -/
def State.deadlineTick (s : State) (e : Nat) : State :=
  match s.clock.deadlineTicks.find? fun t => t.1 == e with
  | none => s
  | some t =>
    let s := s.withClock { s.clock with deadlineTicks := s.clock.deadlineTicks.filter fun u => u.1 != e }
    if (s.editionOf e).isOpen ∧ (s.editionOf e).deadline = some t.2 then s.changeEdition e { s.editionOf e with isOpen := false } else s

/-- EDITION_DEADLINE (R147). -/
def execEditionDeadline (edition : Nat) (s : State) : Host.Outcome State Fault Refusal := .next (s.deadlineTick edition)

/-! ### The Page Table (section 9.2) -/

/-- The in-use entry with a key. -/
def State.pageKeyed (s : State) (edition number : Nat) : Option Nat :=
  (s.page.pages.find? fun e => e.2.inUse && e.2.edition == edition && e.2.number == number).map Prod.fst

/-- R149: the lowest-numbered entry not in use. -/
def State.freePage (s : State) : Option Nat := (List.range Config.pageCount).find? fun k => !(s.pageAt k).inUse

/-- The placements of a page, in index order. -/
def Page.placed (p : Page) : List (Nat × Placement) := p.placements.filter fun e => e.2.story != 0

/-- R149: the lowest-numbered empty slot of a page. -/
def Page.freeSlot (p : Page) : Nat := ((List.range Config.placementCount).find? fun i => (p.placement i).story == 0).getD 0

/-- The index at which a story stands on a page. -/
def Page.indexOf (p : Page) (n : Nat) : Option Nat := (p.placed.find? fun e => e.2.story == n).map Prod.fst

/-- R149: a story's placement reference for an edition is set or removed. -/
def State.putReference (s : State) (n e : Nat) (r : Option (Nat × Nat)) : State :=
  s.putStory n { s.story n with placements := tset (fun _ => none) (s.story n).placements e r }

/-- R152: the placement notices of a story and an edition. -/
def State.placementNotices (s : State) (n e : Nat) : State := s.sendAll [.fitPlacement n e, .screenPlacement n e]

/-- R153, R154: a page that has been released becomes MAKING when its placements change. -/
def PageState.remade : PageState → PageState
  | .set | .stale | .returned | .failed => .making
  | st => st

/-- The page is QUEUED or SENDING. -/
def PageState.released : PageState → Bool
  | .queued | .sending => true
  | _ => false

/-! ### Checks of the make-up slips (section 9.3) -/

/-- The tagged position's desk carries MAKEUP. -/
def State.makesUp (s : State) (v : Service) : Bool := (s.deskEntry (s.position v.position).desk).makeup

/-- A key out of range: an edition outside 1 to 4 or a page outside 1 to 96. -/
def badKey (edition number : Nat) : Bool := edition < 1 || 4 < edition || number < 1 || 96 < number

def Service.edition (v : Service) : Nat := byteAt (v.word 1) 0
def Service.page (v : Service) : Nat := byteAt (v.word 1) 1

/-! ### Setting locks and attempts (sections 9.4 to 9.6) -/

/-- R161: the lock notices of stories. -/
def State.lockNotices (s : State) (stories : List Nat) : State := s.sendAll (stories.map .lock)

/-- R160: the attempt record of a placement at the pick. -/
def State.captureAttempt (s : State) (edition : Nat) (p : Placement) : AttemptRec :=
  let st := s.story p.story
  let sp := st.fit.spec.getD ⟨0, 0, 0, 0, 0⟩
  let h := tget (fun _ => {}) st.fit.outcomes edition
  let cut := p.mode == .cut && h.kind == .over
  { size := sp.size, leading := sp.leading, measure := sp.measure, indent := sp.indent, lines := st.fit.lines, holeLines := h.lines
    cut, cutOffset := if cut then h.cut.getD 0 else 0, linesSent := if cut then h.lines else st.fit.lines
    blocks := st.chain.take st.filled, length := st.filled * Config.blockBytes, locked := true, placeEndSent := false, written := false }

/-- R160, R170: what the Set Link Controller is handed for a placement. -/
def setRecord (i : Nat) (p : Placement) (a : AttemptRec) : SetRecord :=
  { index := i, story := p.story, column := p.column, span := p.span, size := a.size, leading := a.leading, indent := a.indent
    measure := a.measure, hole := p.hole, linesSent := a.linesSent, cut := a.cut, textEnd := if a.cut then a.cutOffset else a.length
    blocks := a.blocks }

/-- PICK (R160): the page becomes SENDING at the head, its stories are locked and the attempt is handed over. -/
def State.pick (s : State) (k : Nat) : State :=
  let p := s.pageAt k
  let slots := p.placed.map fun e => (e.1, { e.2 with attempt := some (s.captureAttempt p.edition e.2) })
  let records := slots.filterMap fun e => e.2.attempt.map fun a => setRecord e.1 e.2 a
  let s := s.putPage k { p with state := .sending, placements := slots }
  let s := s.withPage { s.page with queue := k :: s.page.queue.filter (· ≠ k), lockLeft := none, lockStarted := false, pickHeld := false }
  (s.lockNotices (slots.map fun e => e.2.story)).handOver ⟨p.edition, p.number, slots.length, s.clock.tod, records⟩

/-- R159: every story of a page is CURRENT and none is held as bracketed. R160, R164: a page is passed over while a write or a change to one of its
stories is on its way to the Fit Unit: the pick waits for the recount, and every captured H belongs to a hole as it now stands (log 57). -/
def State.settable (s : State) (p : Page) : Bool :=
  p.placed.all fun e =>
    (s.story e.2.story).fit.state == .current && !s.changeComing e.2.story && !s.page.bracketed.contains e.2.story

/-- The outcome of a placement's story in an edition. -/
def State.outcomeIn (s : State) (n e : Nat) : HoleResult := tget (fun _ => {}) (s.story n).fit.outcomes e

/-- R156, R159: the first REFUSE-mode placement whose story is CURRENT and OVER in the page's edition. -/
def State.oversetOn (s : State) (p : Page) : Option (Nat × Placement) :=
  p.placed.find? fun e =>
    e.2.mode == .refuse && (s.story e.2.story).fit.state == .current && (s.outcomeIn e.2.story p.edition).kind == .over

/-- R159, R160: the walk of a pick scan over the pages of the queue. -/
def State.scanPages (s : State) : List Nat → State
  | [] => s
  | k :: r =>
    let p := s.pageAt k
    if !s.settable p then s.scanPages r
    else if (s.oversetOn p).isSome then
      let s := s.putPage k { p with state := .returned, lastOutcome := .returned }
      (s.withPage { s.page with queue := s.page.queue.filter (· ≠ k) }).scanPages r
    else if p.placed.any fun e => s.pairStory == some e.2.story then s.withPage { s.page with pickHeld := true }
    else s.pick k

/-- The Page Unit has a PLACE-END or an outcome of the link still to take (log 28). -/
def Notice.report : Notice → Option (Nat ⊕ LinkOutcome)
  | .placeEnd i => some (.inl i)
  | .outcome e => some (.inr e)
  | _ => none

/-- R159: the Set Link Controller is READY, and every report of the last attempt has been taken. -/
def State.linkReady (s : State) : Bool :=
  s.set.state == .ready && !s.set.startDue && (pullFirst Notice.report s.notices).isNone

/-- PICK_SCAN (R159). -/
def State.pickScan (s : State) : State :=
  if s.active && s.sendingPage.isNone && s.linkReady then (s.withPage { s.page with pickHeld := false }).scanPages s.page.queue else s

/-- R163: the page afterwards and whether it leaves the queue. -/
def Page.after (p : Page) (e : AttemptEnd) (limit now : Nat) : Page × Bool :=
  let written := p.placements.any fun x => (x.2.attempt.map (·.written)).getD false
  let p := { p with lastOutcome := e, placements := p.placements.map fun x => (x.1, { x.2 with attempt := none }) }
  match e with
  | .set => ({ p with state := if written then .stale else .set, setTime := now }, true)
  | .refuse | .timeout | .underflow =>
    if p.attempts + 1 < limit then ({ p with state := .queued, attempts := p.attempts + 1 }, false)
    else ({ p with state := .failed, attempts := min 7 (p.attempts + 1) }, true)
  | .lockLimit | .restart => ({ p with state := .queued }, false)
  | .readFail => ({ p with state := .failed }, true)
  | .withdrawn => ({ p with state := .making }, true)
  | .none | .returned => (p, false)

/-- R161, R163: the attempt in progress ends with an outcome; nothing when no page is SENDING. -/
def State.endAttempt (s : State) (e : AttemptEnd) : State :=
  match s.sendingPage with
  | none => s
  | some k =>
    let p := s.pageAt k
    let held := (p.placed.filter fun x => x.2.locked).map fun x => x.2.story
    let r := p.after e s.page.attemptLimit s.clock.tod
    let s := s.putPage k r.1
    let s := s.withPage { s.page with
      queue := if r.2 then s.page.queue.filter (· ≠ k) else s.page.queue, lockLeft := none, lockStarted := false }
    s.lockNotices held

/-- R161, R162: a PLACE-END has been sent: the story's lock is released, and the lock limit stops with the last. -/
def State.placeEnded (s : State) (i : Nat) : State :=
  match s.sendingPage with
  | none => s
  | some k =>
    let p := s.pageAt k
    let x := p.placement i
    match x.attempt with
    | none => s
    | some a =>
      let p := p.putPlacement i { x with attempt := some { a with locked := false, placeEndSent := true } }
      let s := s.putPage k p
      let s := if p.placements.any fun e => e.2.locked then s else s.withPage { s.page with lockLeft := none }
      if a.locked then s.lockNotices [x.story] else s

/-- The oldest report of the link to the Page Unit: READY, a PLACE-END or an outcome, in one order (log 9). -/
def Notice.linkReport : Notice → Option Notice
  | .ready => some .ready
  | .placeEnd i => some (.placeEnd i)
  | .outcome e => some (.outcome e)
  | _ => none

/-- The oldest report of the link is taken when it is of the row's own kind. -/
def State.takeReport {α : Type} (s : State) (f : Notice → Option α) (k : α → State → State) : State :=
  match pullFirst Notice.linkReport s.notices with
  | none => s
  | some (n, r) => match f n with
    | some a => k a (s.withNotices r)
    | none => s

/-- READY (R159). -/
def execReady (s : State) : Host.Outcome State Fault Refusal :=
  .next (s.takeReport (fun | .ready => some () | _ => none) fun _ s => s.pickScan)

/-- PLACE_END_REPORT (R161, R162). -/
def execPlaceEndReport (s : State) : Host.Outcome State Fault Refusal :=
  .next (s.takeReport (fun | .placeEnd i => some i | _ => none) fun i s => s.placeEnded i)

/-- R163: how a page takes a reported outcome; the reason of a REFUSE makes no difference to it. -/
def LinkOutcome.attemptEnd : LinkOutcome → AttemptEnd
  | .set => .set
  | .refuse _ => .refuse
  | .timeout => .timeout
  | .underflow => .underflow
  | .readFail => .readFail
  | .restart => .restart

/-- ATTEMPT_OUTCOME (R163); a scan follows when the attempt's end has left the link READY (R159, log 28). -/
def execAttemptOutcome (s : State) : Host.Outcome State Fault Refusal :=
  .next (s.takeReport (fun | .outcome e => some e | _ => none) fun e s => (s.endAttempt e.attemptEnd).pickScan)

/-- The reports of an attempt that the link has already ended are taken before the Page Unit ends it itself (log 29). -/
def State.settleReports (s : State) : State :=
  if s.notices.any fun n => match n with
    | .outcome _ => true
    | _ => false
  then
    let t := s.withNotices (s.notices.filter fun n => (Notice.report n).isNone)
    (s.notices.filterMap Notice.report).foldl (fun s r => match r with
      | .inl i => s.placeEnded i
      | .inr e => s.endAttempt e.attemptEnd) t
  else s

/-- R157, R162: the Page Unit ends the attempt and tells the link to cancel. -/
def State.cancelAttempt (s : State) (e : AttemptEnd) (r : CancelReason) : State :=
  if s.sendingPage.isSome then (s.endAttempt e).send (.cancel r) else s

/-- R162: the 1 ms tick that brings a running lock limit to 0 ends the attempt LOCKLIMIT in the same event. -/
def State.lockExpiry (s : State) : State :=
  match s.page.lockLeft with
  | some n =>
    if n ≤ 1 then (s.withPage { s.page with lockLeft := none }).settleReports.cancelAttempt .lockLimit .lockLimit else s
  | none => s

/-- R162: a 1 ms tick at the lock limit. -/
def State.lockTick (s : State) : State :=
  match s.page.lockLeft with
  | some n => if 1 < n then s.withPage { s.page with lockLeft := some (n - 1) } else s.lockExpiry
  | none => s

/-- LOCK_LIMIT_EXPIRY (R162): the Page Unit takes the tick that brings the lock limit to 0 ahead of the other units (log 12). -/
def execLockLimitExpiry (s : State) : Host.Outcome State Fault Refusal := .next s.lockExpiry

/-- RETRY_REPORT (R26, R162): the first report for a locked story starts the lock limit. -/
def execRetryReport (s : State) : Host.Outcome State Fault Refusal :=
  .next (s.takeNotice (fun | .retryReport n => some n | _ => none) fun n s =>
    if s.locked n ∧ !s.page.lockStarted then s.withPage { s.page with lockLeft := some s.page.lockLimit, lockStarted := true } else s)

/-! ### Notices to the Page Unit -/

/-- R164: a write to a story at one of its placements. -/
def State.pageWritten (s : State) (k i : Nat) : State :=
  let p := s.pageAt k
  match p.state with
  | .set => s.putPage k { p with state := .stale }
  | .sending =>
    let x := p.placement i
    match x.attempt with
    | some a => if a.placeEndSent then s.putPage k (p.putPlacement i { x with attempt := some { a with written := true } }) else s
    | none => s
  | _ => s

/-- PAGE_WRITE_NOTICE (R164): a write notice of R7 or the length notice of a TRIM (R32). -/
def execPageWriteNotice (s : State) : Host.Outcome State Fault Refusal :=
  .next (s.takeNotice (fun | .pageWrite w => some w.story | .pageLength n _ => some n | _ => none) fun n s =>
    ((s.story n).placements.filterMap Prod.snd).foldl (fun s r => s.pageWritten r.1 r.2) s)

/-- PAGE_FIT_NOTICE (R74, R159). -/
def execPageFitNotice (s : State) : Host.Outcome State Fault Refusal :=
  .next (s.takeNotice (fun | .pageFit n => some n | _ => none) fun _ s => s.pickScan)

def Notice.pageBracket : Notice → Option (Nat × Option BracketEnd)
  | .pageOpening n => some (n, none)
  | .pageEnding n e => some (n, some e)
  | _ => none

/-- As `takeBracketNotice` of the Fit Unit, for the Page Unit's own order (log 9). -/
def State.takePageBracket (s : State) (ending : Bool) (k : Nat → State → State) : State :=
  match pullFirst Notice.pageBracket s.notices with
  | none => s
  | some (p, r) => if p.2.isSome = ending then k p.1 (s.withNotices r) else s

/-- PAGE_OPENING_NOTICE (R67). -/
def execPageOpeningNotice (s : State) : Host.Outcome State Fault Refusal :=
  .next (s.takePageBracket false fun n s => s.withPage { s.page with bracketed := s.page.bracketed ++ [n] })

/-- PAGE_ENDING_NOTICE (R70, R159): a scan follows for a placed story. -/
def execPageEndingNotice (s : State) : Host.Outcome State Fault Refusal :=
  .next (s.takePageBracket true fun n s =>
    let s := s.withPage { s.page with bracketed := s.page.bracketed.filter (· ≠ n) }
    if (s.story n).placements.isEmpty then s else s.pickScan)

/-! ### The make-up slips (section 9.3) -/

/-- R153: the operands of PLACE as a placement, the span and the hole clamped. -/
def placeOperands (v : Service) : Placement :=
  let column := byteAt (v.word 2) 2
  { story := halfAt (v.word 2) 0, column, span := clamp 1 (9 - column) (byteAt (v.word 2) 3), hole := clamp 1 8000 (halfAt (v.word 3) 0)
    mode := if byteAt (v.word 1) 2 = 1 then .cut else .refuse }

/-- R153: a placement made at a slot of a page. -/
def State.makePlacement (s : State) (k : Nat) (p : Page) (i : Nat) (x : Placement) : State :=
  let s := s.putPage k { p.putPlacement i x with state := p.state.remade }
  (s.putReference x.story p.edition (some (k, i))).placementNotices x.story p.edition

/-- R153: the answer to a PLACE that has placed a story. -/
def State.placeDone (s : State) (v : Service) (k i : Nat) : State :=
  s.reply v { code := .done, w5 := packNat i, w6 := packNat (s.pageAt k).placed.length }

/-- R153: PLACE, handed over. In the second check of section 9.3 the edition, page and mode of word 1 are tested before the column of word 2
(log 61). -/
def State.placeStory (v : Service) (s : State) : State :=
  let x := placeOperands v
  let n := x.story
  let st := s.story n
  let key := s.pageKeyed v.edition v.page
  let busy := match key with
    | some k => (s.pageAt k).state.released
    | none => false
  let elsewhere := match tget (fun _ => none) st.placements v.edition with
    | some r => some r.1 != key
    | none => false
  let inIntake := match st.custody with
    | .intake _ => true
    | _ => false
  if !s.makesUp v then s.reply v { code := .nopriv }
  else if badKey v.edition v.page ∨ 1 < byteAt (v.word 1) 2 then s.reply v { code := .badarg, d1 := 1 }
  else if x.column < 1 ∨ 8 < x.column then s.reply v { code := .badarg, d1 := 2 }
  else if !s.names n then s.reply v { code := .nostory }
  else if inIntake then s.reply v { code := .state }
  else if busy then s.reply v { code := .state }
  else if elsewhere then s.reply v { code := .placed }
  else match key with
    | some k =>
      let p := s.pageAt k
      match p.indexOf n with
      | some i =>
        let old := p.placement i
        let s := s.putPage k { p.putPlacement i x with state := p.state.remade }
        (if old.hole = x.hole then s else s.placementNotices n p.edition).placeDone v k i
      | none =>
        if Config.placementCount ≤ p.placed.length then s.reply v { code := .full }
        else (s.makePlacement k p p.freeSlot x).placeDone v k p.freeSlot
    | none =>
      match s.freePage with
      | none => s.reply v { code := .full }
      | some k => (s.makePlacement k { inUse := true, edition := v.edition, number := v.page } 0 x).placeDone v k 0

/-- PLACE (R153). -/
def execPlaceSlip (s : State) : Host.Outcome State Fault Refusal := .next (s.serve .place State.placeStory)

/-- R154: a placement removed from a page, which leaves use with its last. -/
def State.removePlacement (s : State) (k i : Nat) : State :=
  let p := s.pageAt k
  let x := p.placement i
  let left := p.putPlacement i {}
  let s := s.putPage k (if left.placed = [] then {} else { left with state := p.state.remade })
  (s.putReference x.story p.edition none).placementNotices x.story p.edition

/-- UNPLACE (R154). -/
def execUnplaceSlip (s : State) : Host.Outcome State Fault Refusal :=
  .next (s.serve .unplace fun v s =>
    let n := (v.word 2).toNat
    let at_ := (s.pageKeyed v.edition v.page).bind fun k => ((s.pageAt k).indexOf n).map fun i => (k, i)
    if !s.makesUp v then s.reply v { code := .nopriv }
    else if badKey v.edition v.page then s.reply v { code := .badarg, d1 := 1 }
    else if !s.names n then s.reply v { code := .nostory }
    else match at_ with
      | none => s.reply v { code := .nostory }
      | some (k, i) =>
        if (s.pageAt k).state.released then s.reply v { code := .state }
        else
          let s := s.removePlacement k i
          s.reply v { code := .done, w5 := packNat (s.pageAt k).placed.length })

/-- R155: each copied placement's reference and notices. -/
def State.copyReferences (s : State) (k edition : Nat) : List (Nat × Placement) → State
  | [] => s
  | (i, x) :: r => ((s.putReference x.story edition (some (k, i))).placementNotices x.story edition).copyReferences k edition r

/-- COPYPAGE (R155). -/
def execCopypageSlip (s : State) : Host.Outcome State Fault Refusal :=
  .next (s.serve .copypage fun v s =>
    let edition := byteAt (v.word 1) 2
    let number := byteAt (v.word 1) 3
    if !s.makesUp v then s.reply v { code := .nopriv }
    else if badKey v.edition v.page ∨ badKey edition number then s.reply v { code := .badarg, d1 := 1 }
    else match s.pageKeyed v.edition v.page with
      | none => s.reply v { code := .state }
      | some src =>
        let slots := (s.pageAt src).placed.map fun e => (e.1, { e.2 with attempt := none })
        if (s.pageKeyed edition number).isSome then s.reply v { code := .state }
        else if slots.any fun e => (tget (fun _ => none) (s.story e.2.story).placements edition).isSome then s.reply v { code := .placed }
        else match s.freePage with
          | none => s.reply v { code := .full }
          | some k =>
            let s := s.putPage k { inUse := true, edition, number, placements := slots }
            (s.copyReferences k edition slots).reply v { code := .done, w5 := packNat slots.length })

/-- R156: check 4 of RELEASE, on a CLOSED edition. -/
def State.lateBar (s : State) (v : Service) : Option Code :=
  if (s.editionOf v.edition).isOpen then none
  else if byteAt (v.word 0) 3 % 2 = 0 then some .closed
  else if (s.position v.position).chief then none
  else some .nopriv

/-- R156: a page may be released from its state. -/
def PageState.releasable : PageState → Bool
  | .making | .stale | .returned | .failed => true
  | .queued | .sending | .set => false

/-- R156: RELEASE of an entry, after the first two checks. -/
def State.releasePage (s : State) (v : Service) (k : Nat) : State :=
  let p := s.pageAt k
  if !p.state.releasable then s.reply v { code := .state }
  else match p.placed.find? fun e => (s.story e.2.story).fit.spec.isNone with
    | some e => s.reply v { code := .nospec, w5 := packNat e.2.story }
    | none =>
      match s.oversetOn p with
      | some e =>
        s.reply v { code := .overset, d1 := e.1, w5 := packNat e.2.story, w6 := packNat (s.outcomeIn e.2.story p.edition).amount }
      | none =>
        match s.lateBar v with
        | some c => s.reply v { code := c }
        | none =>
          if Config.queueSize ≤ s.page.queue.length then s.reply v { code := .qfull }
          else
            let s := s.putPage k { p with state := .queued, attempts := 0 }
            let s := s.withPage { s.page with queue := s.page.queue ++ [k] }
            let n := s.page.queue.length
            (s.reply v { code := .done, w5 := packNat n, w6 := packNat n }).pickScan

/-- RELEASE (R156, R159). -/
def execReleaseSlip (s : State) : Host.Outcome State Fault Refusal :=
  .next (s.serve .release fun v s =>
    if !s.makesUp v then s.reply v { code := .nopriv }
    else if badKey v.edition v.page then s.reply v { code := .badarg, d1 := 1 }
    else match s.pageKeyed v.edition v.page with
      | none => s.reply v { code := .state }
      | some k => s.releasePage v k)

/-- R157: WITHDRAW of an entry, after the first two checks. -/
def State.withdrawPage (s : State) (v : Service) (k : Nat) : State :=
  let p := s.pageAt k
  let result : Result := { code := .done, w5 := packNat p.state.number }
  match p.state with
  | .queued =>
    let s := s.putPage k { p with state := .making }
    (s.withPage { s.page with queue := s.page.queue.filter (· ≠ k) }).reply v result
  | .sending => (s.cancelAttempt .withdrawn .withdrawn).reply v result
  | _ => s.reply v { code := .state }

/-- WITHDRAW (R157). -/
def execWithdrawSlip (s : State) : Host.Outcome State Fault Refusal :=
  .next (s.serve .withdraw fun v s =>
    if !s.makesUp v ∧ !(s.position v.position).chief then s.reply v { code := .nopriv }
    else if badKey v.edition v.page then s.reply v { code := .badarg, d1 := 1 }
    else match s.pageKeyed v.edition v.page with
      | none => s.reply v { code := .state }
      | some k => (if (s.pageAt k).state = .sending then s.settleReports else s).withdrawPage v k)

/-- R158: the place of a page in the output queue, from 1. -/
def State.outputPlace (s : State) (k : Nat) : Nat :=
  match s.page.queue.findIdx? (· == k) with
  | some i => i + 1
  | none => 0

/-- R158: the answer to PAGESTAT for an existing page. -/
def State.pagePart (s : State) (k part : Nat) : Result :=
  let p := s.pageAt k
  if part = 0 then
    { code := .done, d1 := p.state.number, d2 := p.placed.length, d3 := p.attempts, w5 := packNat p.setTime
      w6 := packBytes (s.outputPlace k) p.lastOutcome.number (p.placed.filter fun e => e.2.locked).length 0 }
  else
    let x := p.placement (part - 1)
    let flags := match x.attempt with
      | some a => a.locked.toNat + 2 * a.placeEndSent.toNat + 4 * a.written.toNat + 8 * a.cut.toNat
      | none => 0
    { code := .done, d1 := (x.story != 0).toNat, d2 := x.mode.number, d3 := flags
      w5 := packBytes (x.story % 256) (x.story / 256) x.column x.span
      w6 := packHalves x.hole ((x.attempt.map (·.cutOffset)).getD 0) }

/-- PAGESTAT (R158; a key out of range: log 19). -/
def execPagestatSlip (s : State) : Host.Outcome State Fault Refusal :=
  .next (s.serve .pagestat fun v s =>
    let part := byteAt (v.word 1) 2
    if 12 < part then s.reply v { code := .badarg, d1 := 1 }
    else match s.pageKeyed v.edition v.page with
      | none => s.reply v { code := .done }
      | some k => s.reply v (s.pagePart k part))

/-! ### Restarts (R165) -/

/-- R165: a SENDING page ends its attempt with RESTART. -/
def State.warmPage (s : State) : State :=
  let s := s.endAttempt .restart
  s.withPage { s.page with pickHeld := false }

/-- R165: the Page Unit's emptying; the settings are kept. -/
def State.clearPage (s : State) : State := s.withPage { attemptLimit := s.page.attemptLimit, lockLimit := s.page.lockLimit }

end Sys2Proof.Machine
end

