-- ==== Sys2Proof/Machine/ClockUnit.lean ====
section
/-! DEFINITION. The ticks of the Clock (R45) as every unit takes them: the 1 ms tick, the 1 s tick and the minute tick. -/

namespace Sys2Proof.Machine

/-! ### The minute tick (R104, R123) -/

/-- A link's positions, one for each drop that has an in-use position. -/
def State.linkPositions (s : State) (k : Nat) : List Nat := dropNumbers.filterMap fun d => s.positionOn k d

/-- R104, R123: the minute tick at a link. -/
def State.minuteAtLink (s : State) (k : Nat) : State :=
  match (s.link k).state with
  | .awake => (s.linkPositions k).foldl (fun s p => s.markRow p basketRow) s
  | .off =>
    let s := s.putLink k { s.link k with retryDue := true }
    if (s.linkPositions k).any fun p => s.dirtyMap p != 0 then s.startWake k 1 else s
  | .waking | .sleeping => s

/-- R45, R104, R123: a minute tick not yet taken is taken. -/
def State.minuteTick (s : State) : State :=
  if s.clock.minuteDue then
    let s := s.withClock { s.clock with minuteDue := false }
    if s.active then linkNumbers.foldl (fun s k => s.minuteAtLink k) s else s
  else s

/-- MINUTE_TICK (R45, R104, R123). -/
def execMinuteTick (s : State) : Host.Outcome State Fault Refusal := .next s.minuteTick

/-! ### The 1 s tick (R45, R147) -/

def editionNumbers : List Nat := [1, 2, 3, 4]

/-- R45: the Clock at the wrap of the millisecond count. -/
def ClockUnit.wrap (c : ClockUnit) (active : Bool) : ClockUnit :=
  let tod := (c.tod + 1) % Config.secondsPerDay
  { c with
    tod, ms := 0, secondDue := false, minuteDue := tod % 60 == 0
    deadlineTicks := if active && c.clockSet then editionNumbers.map fun e => (e, tod) else [] }

/-- R45: the 1 s tick, once the ticks of the second before it have been taken (log 13). -/
def State.secondTick (s : State) : State :=
  if s.clock.secondDue then
    let s := (editionNumbers.foldl (fun s e => s.deadlineTick e) s).minuteTick
    s.withClock (s.clock.wrap s.active)
  else s

/-- SECOND_TICK (R45). -/
def execSecondTick (s : State) : Host.Outcome State Fault Refusal := .next s.secondTick

/-! ### The 1 ms tick -/

/-- What an earlier tick has brought and no command has taken is taken now, before the next tick counts (log 12; in this order: log 65). -/
def State.settle (s : State) : State :=
  let s := s.pairExpiry
  let s := lineNumbers.foldl (fun s k => s.takeSilence k) s
  let s := s.answerExpiry.offerExpiry.frameExpiry
  let s := linkNumbers.foldl (fun s k => (s.windowExpiry k).linkSleep k) s
  s.secondTick

/-- R45: the Clock's millisecond count; the wrap is the 1 s tick's. -/
def ClockUnit.countMs (c : ClockUnit) : ClockUnit := if 999 ≤ c.ms then { c with secondDue := true } else { c with ms := c.ms + 1 }

/-- R8: the ticks of an open pair. -/
def State.countPair (s : State) : State :=
  s.withPath { s.path with pair := s.path.pair.map fun p => { p with ticks := p.ticks + 1 } }

/-- R118, R119, R121: the idle time and the answer window of a link. -/
def State.countLink (s : State) (k : Nat) : State :=
  let l := s.link k
  match l.state with
  | .awake =>
    if s.linkIdle k then
      let t := satAdd 60000 l.idleTime 1
      s.putLink k { l with idleTime := t, sleepDue := s.links.idle != 0 && s.links.idle ≤ t }
    else s.putLink k { l with idleTime := 0, sleepDue := false }
  | .waking => s.putLink k { l with window := l.window.map (· + 1) }
  | .off | .sleeping => s

/-- R132: the silence time of a line. A time already past a setting that has been lowered has a silence taken at the next tick (log 67). -/
def State.countLine (s : State) (k : Nat) : State :=
  let l := s.line k
  let limit := s.intake.takeSilence * 1000
  if l.enable && !l.held && limit != 0 && !l.silenced then
    s.putLine k { l with silenceTime := l.silenceTime + 1, silenceDue := l.silenceDue || decide (limit ≤ l.silenceTime + 1) }
  else s

/-- R167, R169, R174: the waits of the set link. -/
def SetLink.count (l : SetLink) : SetLink :=
  { l with
    offerWait := if l.state = .starting then l.offerWait.map (· + 1) else l.offerWait
    answerTime := if l.state = .awaiting ∧ !l.held ∧ l.cancel = none then l.answerTime + 1 else l.answerTime
    rxTicks := if l.rx = [] then l.rxTicks else l.rxTicks + 1 }

/-- The counts of the units that work in ACTIVE, in an order of the units that the manual leaves open (log 65). Brackets whose time runs out at one
tick end in ascending entry number (R71, log 60). -/
def State.countActive (s : State) : State :=
  let s := (List.range Config.bracketCount).foldl (fun s k => s.bracketTick k) s
  let s := linkNumbers.foldl (fun s k => s.countLink k) s
  let s := lineNumbers.foldl (fun s k => s.countLine k) s
  let s := s.lockTick
  s.withSet s.set.count

/-- MS_TICK (R45): every unit counts the tick. In PASSIVE only the Clock and an open pair count; the silence time of an enabled line does not rise
(log 70). -/
def execMsTick (s : State) : Host.Outcome State Fault Refusal :=
  let s := s.settle
  let s := (s.withClock s.clock.countMs).countPair
  .next (if s.active then s.countActive else s)

end Sys2Proof.Machine
end

