-- ==== Sys2Proof/Machine/FaultUnit.lean ====
section
/-! DEFINITION. The Fault Unit (sections 11.1 and 11.2, R49): fault banks, the fault line latch, and the items and slip that read them. -/

namespace Sys2Proof.Machine

/-- R179: the fields a bank takes from a record. -/
def Bank.hold (b : Bank) (r : FaultRecord) : Bank :=
  { b with uncorrected := r.uncorrected, locationValid := r.locationValid, code := r.code, location := r.location }

/-- R179: a bank takes a record as one event. -/
def Bank.take (b : Bank) (r : FaultRecord) : Bank :=
  let counted := { b with count := satAdd Config.count16 b.count 1 }
  if !b.valid then { counted.hold r with valid := true }
  else if r.uncorrected && !b.uncorrected then { counted.hold r with overflow := true }
  else { counted with overflow := true }

/-- The banks by number: 0 STORE, 1 SCREEN, 2 WIRE, 3 SET; an index above 3 is taken as 3 (section 11.3). -/
def bankNumbered : Nat → BankName
  | 0 => .store
  | 1 => .screen
  | 2 => .wire
  | _ => .set

def BankName.index : BankName → Nat
  | .store => 0
  | .screen => 1
  | .wire => 2
  | .set => 3

/-- R179, R180: a record taken at its bank; the latch is asserted when VALID goes from clear to set on an enabled bank. -/
def State.takeRecord (s : State) (r : FaultRecord) : State :=
  let old := s.bankOf r.bank
  let s := s.putBank r.bank (old.take r)
  if !old.valid && s.fault.enables.getLsbD r.bank.index then s.withFault { s.fault with latch := true } else s

/-- Table 11-3, item 22h: VALID of banks 0 to 3 in bits 0 to 3, the latch in bit 4. -/
def State.faultSummary (s : State) : Nat :=
  s.fault.store.valid.toNat + 2 * s.fault.screen.valid.toNat + 4 * s.fault.wire.valid.toNat + 8 * s.fault.set.valid.toNat
    + 16 * s.fault.latch.toNat

/-- FAULT_RECORD (R179): the oldest record on its way reaches its bank. -/
def execFaultRecord (s : State) : Host.Outcome State Fault Refusal :=
  .next (s.takeNotice (fun | .fault r => some r | _ => none) fun r s => s.takeRecord r)

/-- R179, R181: every field of a bank is cleared; the data byte is disregarded. -/
def State.clearBank (s : State) (index : Byte) (data : List Byte) : State :=
  if data = [] then s else s.putBank (bankNumbered index.toNat) {}

/-- FAULT_BANK_CLEAR (R179, R181). -/
def execFaultBankClear (index : Byte) (data : List Byte) (s : State) : Host.Outcome State Fault Refusal := .next (s.clearBank index data)

/-- R180: the summary is driven on the data line and the latch released. -/
def State.readSummary (s : State) : State :=
  (s.withSetup { s.setup with dataOut := leBytes 1 s.faultSummary }).withFault { s.fault with latch := false }

/-- FAULT_SUMMARY (R180). -/
def execFaultSummary (s : State) : Host.Outcome State Fault Refusal := .next s.readSummary

/-- FAULTS (R49): a bank is read, and cleared in the same event when the flag asks for it (BADARG before NOPRIV: log 61). -/
def execFaultsSlip (s : State) : Host.Outcome State Fault Refusal :=
  .next (s.serve .faults fun v s =>
    let bank := byteAt (v.word 1) 0
    let clear := byteAt (v.word 1) 1
    if 3 < bank ∨ 1 < clear then s.reply v { code := .badarg, d1 := 1 }
    else if clear = 1 ∧ !s.privileged v.agent then s.reply v { code := .nopriv }
    else
      let b := s.bankOf (bankNumbered bank)
      (if clear = 1 then s.putBank (bankNumbered bank) {} else s).reply v
        { code := .done, d1 := b.flags, d2 := b.code, w5 := packNat b.location, w6 := packNat b.count })

end Sys2Proof.Machine
end

