-- ==== Sys2Proof/Machine/SlipUnit.lean ====
section
/-! DEFINITION. The Slip Unit (chapter 3): posting, choice, capture, the common checks, results and attention, the abandonment after a warm
restart; NOOP, and CLOCK of the Clock. -/

namespace Sys2Proof.Machine

/-! ### Posting and choice -/

/-- R38: a posting notice taken. -/
def State.takePost (s : State) (agent slot : Nat) : State :=
  let inService := match s.slip.service with
    | some v => v.agent == agent && v.slot == slot
    | none => false
  if inService || (s.pendingOf agent).contains slot then s
  else s.putPending agent (s.pendingOf agent ++ [slot])

/-- POSTING_NOTICE (R38); held while an abandonment is in progress (R50). -/
def execPostingNotice (s : State) : Host.Outcome State Fault Refusal :=
  .next (s.takeNotice (fun | .posting a slot => some (a, slot) | _ => none) fun p s =>
    if s.slip.abandon.isEmpty then s.takePost p.1 p.2
    else s.withSlip { s.slip with heldPosts := s.slip.heldPosts ++ [p] })

/-- R39: the first agent, from the next-agent pointer on, whose pending list is not empty. -/
def State.nextToServe (s : State) : Option Nat :=
  ((List.range 16).map fun i => (s.slip.nextAgent + i) % 16).find? fun a => s.pendingOf a != []

/-- SLIP_CHOICE (R39): the oldest slot of the chosen agent enters service and its capture request is presented. -/
def execSlipChoice (s : State) : Host.Outcome State Fault Refusal :=
  .next (if s.slip.service.isNone && s.slip.abandon.isEmpty && s.active then
    match s.nextToServe with
    | none => s
    | some a =>
      let slot := (s.pendingOf a).headD 0
      let s := s.putPending a (s.pendingOf a).tail
      s.withSlip { s.slip with
        service := some ⟨a, slot, [], false, .capturing, .nothing⟩
        request := some (.capture (s.slotAddr a slot))
        nextAgent := (a + 1) % 16 }
  else s)

/-! ### Capture and common checks -/

/-- The kinds of each unit by code (Tables 3-4, 2-4, 4-1, 6-3, 5-2, 9-5, 8-3, R127, R177). -/
def kindOf : Nat → Nat → Option SlipKind
  | 0, 0x00 => some .noop
  | 0, 0x01 => some .clock
  | 0, 0x02 => some .edition
  | 0, 0x03 => some .pathstat
  | 0, 0x04 => some .faults
  | 0, 0x10 => some .position
  | 0, 0x11 => some .desk
  | 1, 0x01 => some .openStory
  | 1, 0x02 => some .extend
  | 1, 0x03 => some .trim
  | 1, 0x04 => some .adopt
  | 1, 0x05 => some .storystat
  | 1, 0x08 => some .send
  | 1, 0x09 => some .take
  | 1, 0x0A => some .recall
  | 1, 0x0B => some .spike
  | 1, 0x0C => some .bracket
  | 1, 0x0D => some .basketstat
  | 2, 0x01 => some .view
  | 2, 0x02 => some .scroll
  | 2, 0x03 => some .reshow
  | 2, 0x04 => some .linkstat
  | 3, 0x01 => some .spec
  | 3, 0x02 => some .unspec
  | 3, 0x03 => some .fitstat
  | 4, 0x01 => some .place
  | 4, 0x02 => some .unplace
  | 4, 0x03 => some .copypage
  | 4, 0x04 => some .release
  | 4, 0x05 => some .withdraw
  | 4, 0x06 => some .pagestat
  | 4, 0x07 => some .setstat
  | 5, 0x01 => some .linehold
  | 5, 0x02 => some .lineresume
  | 5, 0x03 => some .linestat
  | _, _ => none

/-- The kinds that act for a position. -/
def SlipKind.forPosition : SlipKind → Bool
  | .openStory | .extend | .trim | .send | .take | .recall | .spike | .bracket | .view | .scroll | .reshow | .spec | .unspec
  | .place | .unplace | .copypage | .release | .withdraw => true
  | .noop | .clock | .edition | .pathstat | .faults | .position | .desk | .adopt | .storystat | .basketstat | .linkstat | .fitstat
  | .pagestat | .setstat | .linehold | .lineresume | .linestat => false

/-- The privileged kinds. -/
def SlipKind.privilegedKind : SlipKind → Bool
  | .clock | .edition | .position | .desk | .adopt | .linehold | .lineresume => true
  | .noop | .pathstat | .faults | .openStory | .extend | .trim | .storystat | .send | .take | .recall | .spike | .bracket | .basketstat
  | .view | .scroll | .reshow | .linkstat | .spec | .unspec | .fitstat | .place | .unplace | .copypage | .release | .withdraw
  | .pagestat | .setstat | .linestat => false

/-- The chief-only kind (Table 4-1). -/
def SlipKind.chiefOnly (k : SlipKind) : Bool := k == .recall

/-- R41: the common checks, the first that fails giving its code. -/
def State.commonChecks (s : State) (v : Service) : Code ⊕ SlipKind :=
  let unit := byteAt (v.word 0) 1 % 16
  let badPosition : SlipKind → Option Code := fun k =>
    if k.forPosition then
      match v.tag with
      | none => some .nopos
      | some p =>
        if !(s.position p).inUse then some .nopos
        else if (s.position p).agent ≠ v.agent then some .notyours
        else none
    else none
  if 6 ≤ unit then .inl .badunit
  else match kindOf unit (byteAt (v.word 0) 0) with
    | none => .inl .badkind
    | some k =>
      match badPosition k with
      | some c => .inl c
      | none =>
        if k.privilegedKind && !s.privileged v.agent then .inl .nopriv
        else if k.chiefOnly && !(s.position v.position).chief then .inl .nopriv
        else .inr k

/-- R40: what the Slip Unit decides when the 8 words of the slot have been read. -/
def State.captured (s : State) (v : Service) (words : List (Option Word)) : State :=
  let v := { v with words := words.map (Option.getD · 0) }
  let withdrawn := match words.getD 7 none with
    | some w => w != 1
    | none => false
  if withdrawn then s.withSlip { s.slip with service := none }
  else
    let flag := ((words.getD 0 none).map fun w => decide (128 ≤ byteAt w 1)).getD false
    let v := { v with attention := flag }
    match (words.take 7).findIdx? Option.isNone with
    | some i => s.reply v { code := .badarg, d1 := i, d2 := 1 }
    | none =>
      match s.commonChecks v with
      | .inl c => s.reply v { code := c }
      | .inr k => s.withSlip { s.slip with service := some { v with phase := .dispatched k } }

/-- CAPTURE (R40): the capture grant ends. -/
def execCapture (s : State) : Host.Outcome State Fault Refusal :=
  .next (match s.path.port with
    | some (.slip (.capture a)) =>
      let r := s.freePort.ownRead slipRead a 8
      match s.path.orphan, r.1.slip.service with
      | false, some v => r.1.captured v r.2
      | _, _ => r.1
    | _ => s)

/-! ### Results and attention -/

/-- R42: a pulse starts, or is extended, on an agent's attention line. -/
def State.pulse (s : State) (agent : Nat) : State :=
  s.withSlip { s.slip with attention := tset (fun _ => false) s.slip.attention agent true }

/-- R42: words 5, 6 and 7 of a slot written. -/
def State.writeResult (s : State) (addr : Nat) (w5 w6 w7 : Word) : State :=
  s.ownWrite (addr + 20) (wordBytes w5 ++ wordBytes w6 ++ wordBytes w7)

/-- RESULT_WRITE (R42): the result grant ends, the slip leaves service and its attention pulse starts. -/
def execResultWrite (s : State) : Host.Outcome State Fault Refusal :=
  .next (match s.path.port with
    | some (.slip (.result a w5 w6 w7)) =>
      let t := s.freePort.writeResult a w5 w6 w7
      match s.path.orphan, t.slip.service with
      | false, some v =>
        let t := t.withSlip { t.slip with service := none }
        if v.attention then t.pulse v.agent else t
      | _, _ => t
    | _ => s)

/-- ATTENTION_PULSE_END (R42): the 16 cycles of a pulse have passed (log 33). -/
def execAttentionPulseEnd (agent : Fin 16) (s : State) : Host.Outcome State Fault Refusal :=
  .next (s.withSlip { s.slip with attention := tset (fun _ => false) s.slip.attention agent false })

/-- R50: the posts held during an abandonment are taken. -/
def State.takeHeldPosts (s : State) : State :=
  s.slip.heldPosts.foldl (fun s p => s.takePost p.1 p.2) (s.withSlip { s.slip with heldPosts := [] })

/-- R50: the request of the slot at the head of the abandon list, or, when the list is done, the pulses and the held posts. -/
def State.nextAbandoned (s : State) : State :=
  match s.slip.abandon with
  | (a, slot) :: _ => s.withSlip { s.slip with request := some (.abandoned (s.slotAddr a slot)) }
  | [] =>
    let t := s.slip.affected.foldl (fun s a => s.pulse a) s
    (t.withSlip { t.slip with affected := [] }).takeHeldPosts

/-- ABANDONED_RESULT (R50): the grant of an ABANDONED result ends. -/
def execAbandonedResult (s : State) : Host.Outcome State Fault Refusal :=
  .next (match s.path.port with
    | some (.slip (.abandoned a)) =>
      let t := s.freePort.writeResult a 0 0 (({ code := .abandoned } : Result).word7)
      if s.path.orphan then t
      else (t.withSlip { t.slip with abandon := t.slip.abandon.tail }).nextAbandoned
    | _ => s)

/-- R50: the abandonment begins: the slip in service, unless its result grant has begun, then every pending slot. -/
def State.abandonSlips (s : State) : State :=
  let finishing := match s.path.port with
    | some (.slip (.result ..)) => !s.path.orphan
    | _ => false
  let served := match s.slip.service with
    | some v => if finishing then [] else [(v.agent, v.slot)]
    | none => []
  let waiting := (List.range 16).flatMap fun a => (s.pendingOf a).map fun slot => (a, slot)
  let new := served ++ waiting
  let s := s.withSlip { s.slip with
    pendingLists := []
    service := if finishing then s.slip.service else none
    abandon := s.slip.abandon ++ new
    affected := s.slip.affected ++ (new.map Prod.fst).eraseDups }
  if new.isEmpty then s else s.nextAbandoned

/-- R51: every pending list is emptied and the slip in service dropped. -/
def State.dropSlips (s : State) : State :=
  s.withSlip { s.slip with
    pendingLists := [], service := none, nextAgent := 0, request := none, abandon := [], affected := [], heldPosts := [] }

/-! ### NOOP and CLOCK -/

/-- NOOP (R47). -/
def execNoopSlip (s : State) : Host.Outcome State Fault Refusal :=
  .next (s.serve .noop fun v s =>
    s.reply v { code := .done, w5 := packNat s.clock.tod, w6 := packNat s.clock.clockSet.toNat })

/-- CLOCK (R46): the time is set; a 1 s tick not yet given is not given (log 13). -/
def execClockSlip (s : State) : Host.Outcome State Fault Refusal :=
  .next (s.serve .clock fun v s =>
    let t := (v.word 1).toNat
    if Config.secondsPerDay ≤ t then s.reply v { code := .badarg, d1 := 1 }
    else
      (s.withClock { s.clock with tod := t, ms := 0, clockSet := true, secondDue := false }).reply v
        { code := .done, w5 := packNat s.clock.tod, w6 := packNat s.clock.clockSet.toNat })

end Sys2Proof.Machine
end

