-- ==== Sys2Proof/Machine/SetupPort.lean ====
section
/-! DEFINITION. The Setup Port (sections 11.3 and 11.4): setting writes, what a read of each item drives, the restarts of every unit, and the
work deferred while a locked pair is open. -/

namespace Sys2Proof.Machine

/-! ### Setting items (Table 11-3) -/

/-- R3: the nearest of 4, 8, 12 and 16 MiB, the larger where two are equally near. -/
def fittedStore (n : Nat) : Nat := if n < 6 then 4 else if n < 10 then 8 else if n < 14 then 12 else 16

/-- R118: the link idle setting: 0, or 500 to 60,000 ms. -/
def idleSetting (n : Nat) : Nat := if n = 0 then 0 else clamp 500 60000 n

/-- R181: an item of one data byte, written when the byte has arrived. -/
def oneByte (s : State) (data : List Byte) (k : Nat → State) : State :=
  match data with
  | b :: _ => k b.toNat
  | [] => s

/-- R181: an item of two data bytes, low byte first. -/
def twoBytes (s : State) (data : List Byte) (k : Nat → State) : State :=
  match data with
  | a :: b :: _ => k (leNat [a, b])
  | _ => s

/-- R181: the setting items that have no row of their own, clamped as their rules give. -/
def State.writeSetting (s : State) (item : Nat) (data : List Byte) : State :=
  match item with
  | 0x01 => oneByte s data fun n => s.withSetup { s.setup with staged := { s.setup.staged with storeMiB := fittedStore n } }
  | 0x02 => twoBytes s data fun n => s.withSetup { s.setup with staged := { s.setup.staged with copyFirst := clamp 0 Config.copyFirstMax n } }
  | 0x03 => twoBytes s data fun n =>
    s.withSetup { s.setup with staged := { s.setup.staged with copyCount := clamp Config.copyCountMin Config.copyCountMax n } }
  | 0x04 => twoBytes s data fun n => s.withSetup { s.setup with staged := { s.setup.staged with slipBase := clamp 0 Config.slipBaseMax n } }
  | 0x08 => twoBytes s data fun n => s.withSlip { s.slip with privMask := BitVec.ofNat 16 n }
  | 0x09 => oneByte s data fun n => s.withDesk { s.desk with recallGuard := clamp 0 60 n }
  | 0x0A => twoBytes s data fun n => s.withDesk { s.desk with bracketLimit := clamp 100 10000 n }
  | 0x0B => twoBytes s data fun n => s.withLinks { s.links with idle := idleSetting n }
  | 0x0D => twoBytes s data fun n => s.withIntake { s.intake with takeSilence := clamp 0 600 n }
  | 0x0F => oneByte s data fun n => s.withPage { s.page with attemptLimit := clamp 1 7 n }
  | 0x10 => twoBytes s data fun n => s.withPage { s.page with lockLimit := clamp 250 10000 n }
  | 0x18 => oneByte s data fun n => s.withFault { s.fault with enables := BitVec.ofNat 4 n }
  | _ => s

/-- Table 11-3, items 01h to 04h and 05h: the bytes of the structural settings. -/
def Regions.itemBytes (g : Regions) : List Byte :=
  leBytes 1 g.storeMiB ++ leBytes 2 g.copyFirst ++ leBytes 2 g.copyCount ++ leBytes 2 g.slipBase

/-- Table 11-3, item 20h: a fault bank. -/
def Bank.itemBytes (b : Bank) : List Byte := leBytes 1 b.flags ++ leBytes 1 b.code ++ leBytes 4 b.location ++ leBytes 2 b.count

/-- Table 11-3, item 0Ch: a wire line. -/
def Line.itemBytes (l : Line) : List Byte :=
  leBytes 1 l.rate ++ leBytes 1 l.dataBits ++ leBytes 1 l.parity ++ leBytes 1 l.stopBits ++ leBytes 1 l.desk ++ leBytes 1 l.enable.toNat

def PartState.number : PartState → Nat
  | .passive => 0
  | .active => 1

/-- R181, Table 11-3: the bytes a read of an item drives; an unknown item drives 00h (a font index above 3: log 48; a
write-only item: log 52). -/
def State.setupRead (s : State) (item index : Nat) : List Byte :=
  let font := clamp 0 3 index
  let code := tget (fun _ => 0x20) s.fit.lastCode font
  match item with
  | 0x01 => leBytes 1 s.setup.staged.storeMiB
  | 0x02 => leBytes 2 s.setup.staged.copyFirst
  | 0x03 => leBytes 2 s.setup.staged.copyCount
  | 0x04 => leBytes 2 s.setup.staged.slipBase
  | 0x05 => s.path.regions.itemBytes
  | 0x08 => leBytes 2 s.slip.privMask.toNat
  | 0x09 => leBytes 1 s.desk.recallGuard
  | 0x0A => leBytes 2 s.desk.bracketLimit
  | 0x0B => leBytes 2 s.links.idle
  | 0x0C => (s.line (clamp 0 7 index)).itemBytes
  | 0x0D => leBytes 2 s.intake.takeSilence
  | 0x0E => leBytes 1 code ++ leBytes 1 (s.width font code)
  | 0x0F => leBytes 1 s.page.attemptLimit
  | 0x10 => leBytes 2 s.page.lockLimit
  | 0x11 => leBytes 1 s.set.maxRate
  | 0x12 => leBytes 1 s.set.answerTimeout
  | 0x18 => leBytes 1 s.fault.enables.toNat
  | 0x20 => (s.bankOf (bankNumbered index)).itemBytes
  | 0x22 => leBytes 1 s.faultSummary
  | 0x31 => leBytes 1 s.setup.partState.number ++ leBytes 1 s.setup.lastCommand ++ leBytes 1 s.setup.outcome
  | _ => [0]

/-! ### Restarts (R182, R183) -/

/-- STRUCTURAL_CHECK (R182): the outcome of the check of the staged settings, 1 when it passes. -/
def Regions.check (g : Regions) : Nat :=
  let store := g.storeMiB * Config.mib
  if store < (g.copyFirst + g.copyCount) * Config.blockBytes then 2
  else if store < g.slipBase * Config.blockBytes + Config.slipAreaBytes then 3
  else if g.slipBase < g.copyFirst + g.copyCount ∧ g.copyFirst < g.slipBase + 8 then 4
  else 1

/-- R182: the status item's last command and outcome. -/
def State.record (s : State) (command outcome : Nat) : State := s.withSetup { s.setup with lastCommand := command, outcome }

/-- R16: a grant in progress completes, but has lost its requester; a scrub grant and the agents' own go on as they are (log 18). -/
def State.orphanGrant (s : State) : State :=
  match s.path.port with
  | none | some .pass | some (.scrub _) => s
  | some _ => s.withPath { s.path with orphan := true }

/-- R183: the restarts that empty the tables drop every notice but the fault records (log 11). -/
def State.dropAllNotices (s : State) : State :=
  s.withNotices (s.notices.filter fun n => match n with
    | .fault _ => true
    | _ => false)

/-- R8, R13, R16: the Path Unit at a restart that empties the tables. -/
def State.clearPath (s : State) : State :=
  let s := s.orphanGrant
  s.withPath { s.path with pair := none, streak := 0, refusals := [] }

/-- R45: the Clock keeps its time; ticks not yet taken by the units that are emptied lapse (log 13). -/
def State.clearTicks (s : State) : State := s.withClock { s.clock with minuteDue := false, deadlineTicks := [] }

/-- R129: every link cleared. -/
def State.clearLinks (s : State) : State := linkNumbers.foldl (fun s k => s.clearLink k) s

/-- R183: the tables of every unit emptied, its settings kept. -/
def State.emptyTables (s : State) : State :=
  let s := s.dropAllNotices.clearPath
  let s := (s.withDir {}).dropSlips.clearTicks
  s.clearDesk.clearFit.clearScreen.clearLinks.clearIntake.clearPage.clearSet

/-- R178, R182, R183: a COLD RESTART command: the check, and what follows one that passes. -/
def State.coldRestart (s : State) : State :=
  let g := s.setup.staged
  if g.check ≠ 1 then s.record 1 g.check
  else
    let s := s.emptyTables
    let s := s.withPath { s.path with
      regions := g, scrubQueue := s.path.scrubQueue.filter fun a => decide (a < g.storeMiB * Config.mib) }
    let s := (s.withSetup { s.setup with partState := .active }).record 1 1
    let s := linkNumbers.foldl (fun s k => s.startWake k 1) s
    (s.withSet { s.set with workingMax := s.set.maxRate }).startSet

/-- COLD_RESTART (R182, R183). -/
def execColdRestart (s : State) : Host.Outcome State Fault Refusal := .next s.coldRestart

/-- R183: a PASSIVE command (in PASSIVE: log 43). -/
def State.makePassive (s : State) : State :=
  if s.active then (s.emptyTables.withSetup { s.setup with partState := .passive }).record 3 1 else s.record 3 1

/-- PASSIVE (R183). -/
def execPassive (s : State) : Host.Outcome State Fault Refusal := .next s.makePassive

/-- R36, R50, R112, R178: at a warm restart a slip's capture, fill or list read, and a screen, fit or set link read, lose their requester. -/
def State.warmGrant (s : State) : State :=
  match s.path.port with
  | some (.slip (.capture _)) | some (.slip (.fill _)) | some (.slip (.listRead ..)) | some (.screen _) | some (.fit _) | some (.set _) =>
    s.withPath { s.path with orphan := true }
  | _ => s

/-- R36, R50: the Slip Unit and the Directory at a warm restart. -/
def State.warmSlips (s : State) : State :=
  let finishing := match s.path.port with
    | some (.slip (.result ..)) => !s.path.orphan
    | _ => false
  let undone := match s.slip.service with
    | some v => if finishing then s else s.undoSlip v.undo
    | none => s
  undone.abandonSlips

/-- R112, R128: the Screen Unit and the links at a warm restart. -/
def State.warmLinks (s : State) : State :=
  let s := s.withScreen { s.screen with requests := [] }
  let s := linkNumbers.foldl (fun s k => s.withdrawHand k) s
  linkNumbers.foldl (fun s k => s.warmLink k) s

/-- Reports and cancels between the Page Unit and the set link lapse (log 11). -/
def State.dropReports (s : State) : State :=
  s.withNotices (s.notices.filter fun n => match n with
    | .ready | .placeEnd _ | .outcome _ | .cancel _ => false
    | _ => true)

/-- R183: a WARM RESTART command. Each block takes it in an event of its own, in an order that the manual leaves open: the Path Unit, the slips and
the Directory (R36, R50), the Fit Unit, the Desk Unit, the Screen Unit and the links, the Intake Unit, the Page Unit and the set link (log 65). The
brackets end in ascending entry number, and the takes in ascending line number (log 60). -/
def State.warmRestart (s : State) : State :=
  if s.active then
    let s := s.closePair
    let s := (s.withPath { s.path with streak := 0 }).warmSlips
    let s := s.requeueCount.breakAll
    let s := s.warmGrant.warmLinks
    let s := lineNumbers.foldl (fun s k => s.warmLine k) s
    (s.dropReports.warmPage.warmSet).record 2 1
  else s.record 2 5

/-- WARM_RESTART (R183). -/
def execWarmRestart (s : State) : Host.Outcome State Fault Refusal := .next s.warmRestart

/-- POWER_ON (R183): every unit at its power-on values. The queue of commands, the store behind the part, and a grant in progress stay
(log 18). -/
def execPowerOn (s : State) : Host.Outcome State Fault Refusal :=
  let s := s.orphanGrant
  .next { State.reset with
    pending := s.pending, mem := s.mem, flaws := s.flaws, path := { State.reset.path with port := s.path.port, orphan := s.path.orphan } }

/-! ### Transfers of the setup line (R181) -/

/-- Table 11-3, item 30h: a command by its number; any other is disregarded. -/
def State.setupCommand (s : State) (n : Nat) : State :=
  match n with
  | 1 => s.coldRestart
  | 2 => s.warmRestart
  | 3 => s.makePassive
  | _ => s

/-- R181: a write transfer: the item of its code takes the data bytes; an unknown or read-only item, or too few bytes, changes nothing. -/
def State.setupWrite (s : State) (item : Nat) (index : Byte) (data : List Byte) : State :=
  match item with
  | 0x0C => s.writeWireLine index data
  | 0x0E => s.writeWidthEntry index data
  | 0x11 => s.writeMaximumRate data
  | 0x12 => s.writeAnswerTimeout data
  | 0x21 => s.clearBank index data
  | 0x30 => oneByte s data s.setupCommand
  | _ => s.writeSetting item data

/-- R181: a read transfer drives the item's data bytes; the fault summary also releases the latch (R180). -/
def State.setupDrive (s : State) (item index : Nat) : State :=
  if item = 0x22 then s.readSummary else s.withSetup { s.setup with dataOut := s.setupRead item index }

/-- SETTING_WRITE (R181): a whole transfer: its first byte carries the item code in bits 0 to 6 and the direction in bit 7, 1 for a read; its
second byte is the index; a write carries its data bytes (log 17). -/
def execSettingWrite (first index : Byte) (data : List Byte) (s : State) : Host.Outcome State Fault Refusal :=
  .next (if first.getLsbD 7 then s.setupDrive (first.toNat % 128) index.toNat else s.setupWrite first.toNat index data)

/-! ### Work deferred while a locked pair is open (R8, R55, R160) -/

/-- The step of a slip that its unit has held, by its kind. -/
def State.heldStep (v : Service) : SlipKind → State → State
  | .send => State.sendStory v
  | .take => State.takeStory v
  | .recall => State.recallStory v
  | .spike => State.spikeStory v
  | .bracket => State.bracketStory v
  | .extend => State.extendStory v
  | .trim => State.trimStory v
  | _ => id

/-- The kind of the slip that is held for a locked pair. -/
def State.heldSlip (s : State) : Option (Service × SlipKind) :=
  match s.slip.service with
  | some v => match v.phase with
    | .held k => some (v, k)
    | _ => none
  | none => none

/-- The story that a held slip acts on, as the baskets stand now. -/
def State.heldStory (s : State) (v : Service) : SlipKind → Nat
  | .take => s.takeTarget v
  | _ => v.story

/-- R160: a held pick, with the scan's tests made again. -/
def State.retestPick (s : State) : State := if s.page.pickHeld then (s.withPage { s.page with pickHeld := false }).pickScan else s

/-- DEFERRED_WORK_AT_PAIR_CLOSE (R8, R55, R160): the held slip is taken, or else the held pick is tested again. A pair that has been opened since
on another story holds back neither; one that stands open on the slip's own story, or on a story of the page, goes on holding it back (log 72).
The manual gives no order when a pair closes with both held for it: the slip goes first, and the pick is tested at a later command (log 62). -/
def execDeferredWorkAtPairClose (s : State) : Host.Outcome State Fault Refusal :=
  .next (match s.heldSlip with
    | some (v, k) => if s.pairStory = some (s.heldStory v k) then s.retestPick else State.heldStep { v with phase := .dispatched k } k s
    | none => s.retestPick)

end Sys2Proof.Machine
end

