-- ==== Sys2Proof/Machine/Dispatch.lean ====
section
/-! DEFINITION. The dispatch of commands to their meanings: one arm for each row of the opcode table. -/

namespace Sys2Proof.Machine

/-- The effect of a command on everything but the queue. -/
def exec (i : Instr) (s : State) : Host.Outcome State Fault Refusal :=
  match i with
  | .powerOn => Sys2Proof.Machine.execPowerOn s
  | .coldRestart => Sys2Proof.Machine.execColdRestart s
  | .warmRestart => Sys2Proof.Machine.execWarmRestart s
  | .passive => Sys2Proof.Machine.execPassive s
  | .settingWrite first index data => Sys2Proof.Machine.execSettingWrite first index data s
  | .widthEntryWrite index data => Sys2Proof.Machine.execWidthEntryWrite index data s
  | .wireLineWrite index data => Sys2Proof.Machine.execWireLineWrite index data s
  | .maximumRateWrite data => Sys2Proof.Machine.execMaximumRateWrite data s
  | .answerTimeoutWrite data => Sys2Proof.Machine.execAnswerTimeoutWrite data s
  | .faultBankClear index data => Sys2Proof.Machine.execFaultBankClear index data s
  | .faultSummary => Sys2Proof.Machine.execFaultSummary s
  | .read agent addr => Sys2Proof.Machine.execRead agent addr s
  | .write agent addr be data tag => Sys2Proof.Machine.execWrite agent addr be data tag s
  | .lockedRead agent addr tag => Sys2Proof.Machine.execLockedRead agent addr tag s
  | .lockedWrite agent addr be data tag => Sys2Proof.Machine.execLockedWrite agent addr be data tag s
  | .lockedPairTimeout => Sys2Proof.Machine.execLockedPairTimeout s
  | .deferredWorkAtPairClose => Sys2Proof.Machine.execDeferredWorkAtPairClose s
  | .arbiterDecision passWaiting since => Sys2Proof.Machine.execArbiterDecision passWaiting since s
  | .scrub => Sys2Proof.Machine.execScrub s
  | .retryReport => Sys2Proof.Machine.execRetryReport s
  | .postingNotice => Sys2Proof.Machine.execPostingNotice s
  | .slipChoice => Sys2Proof.Machine.execSlipChoice s
  | .capture => Sys2Proof.Machine.execCapture s
  | .resultWrite => Sys2Proof.Machine.execResultWrite s
  | .attentionPulseEnd agent => Sys2Proof.Machine.execAttentionPulseEnd agent s
  | .abandonedResult => Sys2Proof.Machine.execAbandonedResult s
  | .noopSlip => Sys2Proof.Machine.execNoopSlip s
  | .clockSlip => Sys2Proof.Machine.execClockSlip s
  | .editionSlip => Sys2Proof.Machine.execEditionSlip s
  | .pathstatSlip => Sys2Proof.Machine.execPathstatSlip s
  | .faultsSlip => Sys2Proof.Machine.execFaultsSlip s
  | .positionSlip => Sys2Proof.Machine.execPositionSlip s
  | .deskSlip => Sys2Proof.Machine.execDeskSlip s
  | .openSlip => Sys2Proof.Machine.execOpenSlip s
  | .extendSlip => Sys2Proof.Machine.execExtendSlip s
  | .trimSlip => Sys2Proof.Machine.execTrimSlip s
  | .adoptSlip => Sys2Proof.Machine.execAdoptSlip s
  | .storystatSlip => Sys2Proof.Machine.execStorystatSlip s
  | .slipFillGrant => Sys2Proof.Machine.execSlipFillGrant s
  | .adoptListRead => Sys2Proof.Machine.execAdoptListRead s
  | .sendSlip => Sys2Proof.Machine.execSendSlip s
  | .takeSlip => Sys2Proof.Machine.execTakeSlip s
  | .recallSlip => Sys2Proof.Machine.execRecallSlip s
  | .spikeSlip => Sys2Proof.Machine.execSpikeSlip s
  | .bracketSlip => Sys2Proof.Machine.execBracketSlip s
  | .basketstatSlip => Sys2Proof.Machine.execBasketstatSlip s
  | .bracketTimeExpiry entry => Sys2Proof.Machine.execBracketTimeExpiry entry s
  | .deskWriteNotice => Sys2Proof.Machine.execDeskWriteNotice s
  | .specSlip => Sys2Proof.Machine.execSpecSlip s
  | .unspecSlip => Sys2Proof.Machine.execUnspecSlip s
  | .fitstatSlip => Sys2Proof.Machine.execFitstatSlip s
  | .fitWriteNotice => Sys2Proof.Machine.execFitWriteNotice s
  | .fitLengthNotice => Sys2Proof.Machine.execFitLengthNotice s
  | .fitPlacementNotice => Sys2Proof.Machine.execFitPlacementNotice s
  | .fitOpeningNotice => Sys2Proof.Machine.execFitOpeningNotice s
  | .fitEndingNotice => Sys2Proof.Machine.execFitEndingNotice s
  | .countStart => Sys2Proof.Machine.execCountStart s
  | .fitReadGrant => Sys2Proof.Machine.execFitReadGrant s
  | .viewSlip => Sys2Proof.Machine.execViewSlip s
  | .scrollSlip => Sys2Proof.Machine.execScrollSlip s
  | .reshowSlip => Sys2Proof.Machine.execReshowSlip s
  | .screenWriteNotice => Sys2Proof.Machine.execScreenWriteNotice s
  | .screenLengthNotice => Sys2Proof.Machine.execScreenLengthNotice s
  | .screenFitNotice => Sys2Proof.Machine.execScreenFitNotice s
  | .screenOpeningNotice => Sys2Proof.Machine.execScreenOpeningNotice s
  | .screenEndingNotice => Sys2Proof.Machine.execScreenEndingNotice s
  | .lockNotice => Sys2Proof.Machine.execLockNotice s
  | .screenPlacementNotice => Sys2Proof.Machine.execScreenPlacementNotice s
  | .markNotice => Sys2Proof.Machine.execMarkNotice s
  | .editionNotice => Sys2Proof.Machine.execEditionNotice s
  | .handNotice => Sys2Proof.Machine.execHandNotice s
  | .basketNotice => Sys2Proof.Machine.execBasketNotice s
  | .screenFetchGrant => Sys2Proof.Machine.execScreenFetchGrant s
  | .msTick => Sys2Proof.Machine.execMsTick s
  | .secondTick => Sys2Proof.Machine.execSecondTick s
  | .minuteTick => Sys2Proof.Machine.execMinuteTick s
  | .editionDeadline edition => Sys2Proof.Machine.execEditionDeadline edition s
  | .dirtyNotice link => Sys2Proof.Machine.execDirtyNotice link s
  | .rowFrameEnd link => Sys2Proof.Machine.execRowFrameEnd link s
  | .sleepFrameEnd link => Sys2Proof.Machine.execSleepFrameEnd link s
  | .linkSleep link => Sys2Proof.Machine.execLinkSleep link s
  | .wakeDriveEnd link => Sys2Proof.Machine.execWakeDriveEnd link s
  | .helloReqEnd link => Sys2Proof.Machine.execHelloReqEnd link s
  | .wakeWindowEnd link => Sys2Proof.Machine.execWakeWindowEnd link s
  | .hello link header => Sys2Proof.Machine.execHello link header s
  | .rowbad link header => Sys2Proof.Machine.execRowbad link header s
  | .wake link => Sys2Proof.Machine.execWake link s
  | .discardedHeader link header => Sys2Proof.Machine.execDiscardedHeader link header s
  | .ignoredUpstreamFrame link header => Sys2Proof.Machine.execIgnoredUpstreamFrame link header s
  | .linkstatSlip => Sys2Proof.Machine.execLinkstatSlip s
  | .character line frame => Sys2Proof.Machine.execCharacter line frame s
  | .wireBreak line => Sys2Proof.Machine.execWireBreak line s
  | .silence line => Sys2Proof.Machine.execSilence line s
  | .assemblerCharacter line => Sys2Proof.Machine.execAssemblerCharacter line s
  | .assemblerMarker line => Sys2Proof.Machine.execAssemblerMarker line s
  | .intakeWriteGrant => Sys2Proof.Machine.execIntakeWriteGrant s
  | .intakeFillGrant => Sys2Proof.Machine.execIntakeFillGrant s
  | .delivery line => Sys2Proof.Machine.execDelivery line s
  | .lineholdSlip => Sys2Proof.Machine.execLineholdSlip s
  | .lineresumeSlip => Sys2Proof.Machine.execLineresumeSlip s
  | .linestatSlip => Sys2Proof.Machine.execLinestatSlip s
  | .placeSlip => Sys2Proof.Machine.execPlaceSlip s
  | .unplaceSlip => Sys2Proof.Machine.execUnplaceSlip s
  | .copypageSlip => Sys2Proof.Machine.execCopypageSlip s
  | .releaseSlip => Sys2Proof.Machine.execReleaseSlip s
  | .withdrawSlip => Sys2Proof.Machine.execWithdrawSlip s
  | .pagestatSlip => Sys2Proof.Machine.execPagestatSlip s
  | .pageWriteNotice => Sys2Proof.Machine.execPageWriteNotice s
  | .pageFitNotice => Sys2Proof.Machine.execPageFitNotice s
  | .pageOpeningNotice => Sys2Proof.Machine.execPageOpeningNotice s
  | .pageEndingNotice => Sys2Proof.Machine.execPageEndingNotice s
  | .ready => Sys2Proof.Machine.execReady s
  | .placeEndReport => Sys2Proof.Machine.execPlaceEndReport s
  | .attemptOutcome => Sys2Proof.Machine.execAttemptOutcome s
  | .lockLimitExpiry => Sys2Proof.Machine.execLockLimitExpiry s
  | .offerTimeout => Sys2Proof.Machine.execOfferTimeout s
  | .accept bytes => Sys2Proof.Machine.execAccept bytes s
  | .setAnswer bytes => Sys2Proof.Machine.execSetAnswer bytes s
  | .refuseAnswer bytes => Sys2Proof.Machine.execRefuseAnswer bytes s
  | .answerTimeout => Sys2Proof.Machine.execAnswerTimeout s
  | .hold => Sys2Proof.Machine.execHold s
  | .go => Sys2Proof.Machine.execGo s
  | .badFrame bytes => Sys2Proof.Machine.execBadFrame bytes s
  | .frameTimeout => Sys2Proof.Machine.execFrameTimeout s
  | .setFrameSent => Sys2Proof.Machine.execSetFrameSent s
  | .pageCancelSent => Sys2Proof.Machine.execPageCancelSent s
  | .setReadGrant => Sys2Proof.Machine.execSetReadGrant s
  | .textFrameSpoiled => Sys2Proof.Machine.execTextFrameSpoiled s
  | .cancel => Sys2Proof.Machine.execCancel s
  | .setstatSlip => Sys2Proof.Machine.execSetstatSlip s
  | .faultRecord => Sys2Proof.Machine.execFaultRecord s
  | .returnToMark line => Sys2Proof.Machine.execReturnToMark line s

end Sys2Proof.Machine
end

