-- ==== Sys2Proof/Safety.lean ====
section
/-! DEFINITION. The terms that claims about the part use: what a taken notice, a slip handed over and an answered slip are, which bytes of
the store stay, and the invariants that every step keeps. -/

namespace Sys2Proof.Machine

/-! ### Slips and notices -/

/-- The slip `v` is in service and its unit has been handed it as a kind (R41). -/
def State.handed (s : State) (k : SlipKind) (v : Service) : Prop := s.slip.service = some v ∧ v.phase = .dispatched k

/-- R42: the slip in service is answered: the result request names words 5, 6 and 7 of its slot; nothing else changes. -/
def State.answered (s : State) (v : Service) (w5 w6 w7 : Word) : State :=
  { s with slip := { s.slip with
      service := some { v with phase := .answered }
      request := some (.result (s.path.regions.slipBase * 1024 + v.agent * 512 + v.slot * 32) w5 w6 w7) } }

/-- Word 7 of a result: the code in byte 0 and the detail bytes (R42). -/
def result (code d1 d2 d3 : Nat) : Word := packBytes code d1 d2 d3

/-- `n` is the oldest notice in flight of a sort; `r` are the others, in their order. -/
def State.oldest (s : State) (sort : Notice → Bool) (n : Notice) (r : List Notice) : Prop :=
  ∃ before after, s.notices = before ++ n :: after ∧ r = before ++ after ∧ sort n = true ∧ ∀ m ∈ before, sort m = false

/-- R87: of the notices in flight, none tells the Fit Unit of a write, a length or a placement of the story. -/
def noChangeOnWay (l : List Notice) (n : Nat) : Prop :=
  (∀ w : WriteNote, .fitWrite w ∈ l → w.story ≠ n) ∧ (∀ b, .fitLength n b ∉ l) ∧ ∀ e, .fitPlacement n e ∉ l

/-- R85: the outcome on record for an edition, NOHOLE when there is none. -/
def FitRecord.outcome (f : FitRecord) (e : Nat) : HoleResult := tget (fun _ => {}) f.outcomes e

/-! ### Marked rows and links -/

/-- R101: of the in-use positions, exactly the rows that `marked` names become dirty, and each clean one sends a dirty notice to its drop. -/
def State.marksRows (s t : State) (sent : List Notice) (marked : Nat → Nat → Prop) : Prop :=
  (∀ p r, r < 24 → ((t.dirtyMap p).getLsbD r = true ↔
      (s.dirtyMap p).getLsbD r = true ∨ ((s.position p).inUse = true ∧ marked p r)))
    ∧ ∃ more, t.notices = sent ++ more ∧ ∀ m, m ∈ more ↔ ∃ p r, r < 24 ∧ (s.position p).inUse = true ∧ marked p r
      ∧ (s.dirtyMap p).getLsbD r = false ∧ m = .dirty (s.position p).link (s.position p).drop

/-- A view shows a story. -/
def State.shows (s : State) (p n : Nat) : Prop := (s.viewOf p).story = some n

/-- R121: a wake try has begun on a link: every drop is ABSENT and not answered, and keeps its ROWBAD count and its reported values. -/
def Link.wakeBegun (old new : Link) (n : Nat) : Prop :=
  (∀ d, (new.drop d).state = .absent ∧ (new.drop d).answered = false)
    ∧ (twf (fun _ => ({} : Drop)) old.drops = true → ∀ d, new.drop d = { old.drop d with state := .absent, answered := false })
    ∧ new = { old with
        state := .waking, wakeTry := n, retryDue := false, sleepInProgress := false, wakePending := false, idleTime := 0, sleepDue := false
        drops := new.drops, control := [], driving := true, window := none }

/-- R105, R121: the end of a wake has marked all 24 rows of the position on each PRESENT drop; the link's first turn has then taken row 0 of the
position on the lowest such drop, whose row in hand it is. -/
def State.wakeMarks (s t : State) (k : Nat) : Prop :=
  twf (fun _ => ({} : Position)) s.dir.positions = true → (s.link k).hand = none → (s.link k).rowOnPair = false →
  let on (d p : Nat) : Prop := d < 8 ∧ ((t.link k).drop d).state = .present ∧ s.positionOn k d = some p
  (∀ p r, r < 24 → ((t.dirtyMap p).getLsbD r = true ↔
      ((s.dirtyMap p).getLsbD r = true ∨ ∃ d, on d p) ∧ ∀ h, (t.link k).hand = some h → ¬ (h.position = p ∧ h.row = r)))
    ∧ ∀ d p, on d p → (∀ d' p', d' < d → ¬ on d' p') →
      ∃ h, (t.link k).hand = some h ∧ h.position = p ∧ h.drop = d ∧ h.row = 0 ∧ (t.link k).turn = (d + 1) % 8

/-! ### The store -/

/-- Every byte of the store reads as before, but for `n` bytes from `a`. -/
def State.keepsStoreBut (s t : State) (a n : Nat) : Prop := ∀ x, ¬ (a ≤ x ∧ x < a + n) → t.byte x = s.byte x

/-- Every byte of the store reads as before. -/
def State.keepsStore (s t : State) : Prop := ∀ x, t.byte x = s.byte x

/-- The bytes from `a` upwards are those of a list. -/
def State.storeHolds (t : State) (a : Nat) (l : List Byte) : Prop := ∀ i, i < l.length → t.byte (a + i) = l.getD i 0

/-- The granted pass-through transaction stands at the port, and no pair is open (R1, R8). -/
def State.granted (s : State) : Prop := s.path.pair = none ∧ s.path.port = some .pass

/-- The commands whose own effect writes the store: the two write kinds and the part's own writes (R4, R11, R22, R42, R50, R138, R139). -/
def storing : Instr → Bool
  | .write .. | .lockedWrite .. | .resultWrite | .abandonedResult | .slipFillGrant | .intakeWriteGrant | .intakeFillGrant => true
  | _ => false

/-! ### Invariants -/

/-- The store's bytes and conditions, the views, the positions and the pages are in their canonical form (log 3). -/
def State.tablesCanonical (s : State) : Prop :=
  Memory.wf s.mem = true ∧ twf (fun _ => Ecc.clean) s.flaws = true ∧ twf (fun _ => ({} : View)) s.screen.views = true
    ∧ twf (fun _ => ({} : Position)) s.dir.positions = true ∧ twf (fun _ => ({} : Page)) s.page.pages = true

/-- R179: the count is at least 1 while VALID is set, OVERFLOW is set only while VALID is set; the count stays within 65,535. -/
def Bank.sound (b : Bank) : Prop := (b.valid = true → 1 ≤ b.count) ∧ (b.overflow = true → b.valid = true) ∧ b.count ≤ 65535

def State.banksSound (s : State) : Prop := ∀ n, (s.bankOf n).sound

/-- R179: an uncorrected record that a bank holds is still the one held, unless the bank has been cleared. -/
def Bank.keepsUncorrected (old new : Bank) : Prop :=
  old.valid = true → old.uncorrected = true → new.valid = true →
    new.uncorrected = true ∧ new.code = old.code ∧ new.location = old.location ∧ new.locationValid = old.locationValid

/-- The Clock's ranges (section 3.5): the time-of-day is 0 to 86,399 and the millisecond count 0 to 999. -/
def State.clockInRange (s : State) : Prop := s.clock.tod < 86400 ∧ s.clock.ms ≤ 999

/-- The staged and in-effect structural settings are within Table 1-8. -/
def Regions.inRange (g : Regions) : Prop :=
  (g.storeMiB = 4 ∨ g.storeMiB = 8 ∨ g.storeMiB = 12 ∨ g.storeMiB = 16) ∧ g.copyFirst ≤ 16383 ∧ 64 ≤ g.copyCount ∧ g.copyCount ≤ 16384
    ∧ g.slipBase ≤ 16376

/-- A wire line's settings are within R130. -/
def Line.inRange (l : Line) : Prop :=
  l.rate ≤ 6 ∧ 7 ≤ l.dataBits ∧ l.dataBits ≤ 8 ∧ l.parity ≤ 2 ∧ 1 ≤ l.stopBits ∧ l.stopBits ≤ 2 ∧ l.desk ≤ 15

/-- The settings that are written one entry at a time: the wire lines (R130), and the widths with the codes last written (R75). -/
def State.entriesInRange (s : State) : Prop :=
  (∀ k, k < 8 → (s.line k).inRange)
    ∧ (∀ font, font < 4 → ∀ code, code < 0x80 → 0x20 ≤ code → 1 ≤ s.width font code ∧ s.width font code ≤ 36)
    ∧ ∀ font, font < 4 → 0x20 ≤ tget (fun _ => 0x20) s.fit.lastCode font ∧ tget (fun _ => 0x20) s.fit.lastCode font ≤ 0x7F

/-- Every setting is within its range (Table 1-8, R60, R75, R118, R130, R151, R168). -/
def State.settingsInRange (s : State) : Prop :=
  s.setup.staged.inRange ∧ s.path.regions.inRange ∧ s.desk.recallGuard ≤ 60
    ∧ 100 ≤ s.desk.bracketLimit ∧ s.desk.bracketLimit ≤ 10000
    ∧ (s.links.idle = 0 ∨ (500 ≤ s.links.idle ∧ s.links.idle ≤ 60000)) ∧ s.intake.takeSilence ≤ 600
    ∧ 1 ≤ s.page.attemptLimit ∧ s.page.attemptLimit ≤ 7 ∧ 250 ≤ s.page.lockLimit ∧ s.page.lockLimit ≤ 10000
    ∧ 1 ≤ s.set.maxRate ∧ s.set.maxRate ≤ 5 ∧ 1 ≤ s.set.answerTimeout ∧ s.set.answerTimeout ≤ 60
    ∧ s.entriesInRange

/-- R11, R19, R133: the scrub queue holds at most 4 addresses, none twice; a hand at most 8 stories; a FIFO at most 512 entries. -/
def State.listsBounded (s : State) : Prop :=
  (s.path.scrubQueue.length ≤ 4 ∧ s.path.scrubQueue.Nodup) ∧ (∀ p, (s.position p).hand.length ≤ 8)
    ∧ ∀ k, (s.line k).fifo.length ≤ 512

/-- R150: the output queue holds at most 32 pages, each once: exactly the QUEUED pages and the SENDING page, with the SENDING page at the
head. Only pages in use are QUEUED or SENDING. -/
def State.outputQueueSound (s : State) : Prop :=
  s.page.queue.length ≤ 32 ∧ s.page.queue.Nodup
    ∧ (∀ k, k ∈ s.page.queue ↔ (s.pageAt k).state = .queued ∨ (s.pageAt k).state = .sending)
    ∧ (∀ k, (s.pageAt k).state = .sending → s.page.queue.head? = some k)
    ∧ ∀ k, k ∈ s.page.queue → (s.pageAt k).inUse = true

end Sys2Proof.Machine
end

