-- ==== Sys2Proof/Certificates/Slice0/Obligations.lean ====
section
/-! DEFINITION. The statements for the provers, as propositions. They take the chapters in order; each docstring names the rule or the
section that a statement follows. -/

open Sys2Proof Sys2Proof.Machine

/-! ### The step and reset -/

/-- A step takes the command at the front of the queue and runs it with the queue's rest; on an empty queue the block idles (log 2). -/
def Obligations.StepRunsTheFrontCommand : Prop :=
  (∀ (c : Instr) (r : List Instr) (s : State), s.pending = c :: r → step s = exec c { s with pending := r })
    ∧ ∀ s : State, s.pending = [] → step s = .next s

/-- The values the manual gives at power-on, unit by unit (R3, R11, R13, R16, R17, R20, R27, R29, R44, R45, R51, R52, R60, R65, R75, R86, R96, R101,
R118, R129 to R133, R143, R147, R149 to R151, R168, R178 to R180, R182). -/
def Obligations.ResetHoldsThePowerOnValues : Prop :=
  State.reset.pending = [] ∧ State.reset.setup.partState = .passive ∧ State.reset.setup.lastCommand = 0 ∧ State.reset.setup.outcome = 0
    ∧ State.reset.setup.staged = ⟨16, 16, 12288, 0⟩ ∧ State.reset.path.regions = ⟨16, 16, 12288, 0⟩
    ∧ State.reset.path.port = none ∧ State.reset.path.streak = 0 ∧ State.reset.path.pair = none ∧ State.reset.path.scrubQueue = []
    ∧ (∀ a, State.reset.refusalOf a = ⟨0, 0, .none⟩)
    ∧ (∀ a, State.reset.pendingOf a = []) ∧ State.reset.slip.service = none ∧ State.reset.slip.nextAgent = 0 ∧ State.reset.slip.request = none
    ∧ State.reset.slip.abandon = []
    ∧ (∀ d, State.reset.basketOf d = []) ∧ (∀ k, (State.reset.bracketAt k).inUse = false)
    ∧ State.reset.fit.queue = [] ∧ State.reset.fit.count = none ∧ State.reset.fit.request = none ∧ State.reset.fit.bracketed = []
    ∧ (∀ font, tget (fun _ => 0x20) State.reset.fit.lastCode font = 0x20)
    ∧ (∀ p, State.reset.viewOf p = ⟨none, 0, 0⟩ ∧ State.reset.dirtyMap p = 0#24)
    ∧ State.reset.screen.bracketed = [] ∧ State.reset.screen.requests = []
    ∧ (∀ k d, (State.reset.link k).drop d = ⟨.absent, 0, 0, 0, 0, false⟩)
    ∧ (∀ k, let l := State.reset.link k
        l.retryDue = false ∧ l.sleepInProgress = false ∧ l.wakePending = false ∧ l.idleTime = 0 ∧ l.turn = 0 ∧ l.hand = none ∧ l.frame = none
          ∧ l.corrected = 0 ∧ l.discarded = 0 ∧ l.rowsSent = 0 ∧ l.ignored = 0)
    ∧ (∀ k, let l := State.reset.line k
        l.dataBits = 7 ∧ l.parity = 1 ∧ l.stopBits = 1 ∧ l.desk = 0 ∧ l.enable = false ∧ l.held = false ∧ l.fifo = [] ∧ l.marks = []
          ∧ l.startPending = false ∧ l.silenceTime = 0 ∧ l.received = 0 ∧ l.spoiled = 0 ∧ l.lost = 0 ∧ l.discarded = 0 ∧ l.delivered = 0
          ∧ l.takesLost = 0 ∧ l.takesTruncated = 0 ∧ l.breaks = 0)
    ∧ State.reset.intake.requests = []
    ∧ (∀ k, (State.reset.pageAt k).inUse = false ∧ (State.reset.pageAt k).placements = []) ∧ State.reset.page.queue = []
    ∧ State.reset.page.lockLeft = none ∧ State.reset.page.bracketed = []
    ∧ State.reset.set.offerCount = 0 ∧ State.reset.set.held = false ∧ State.reset.set.checkCount = 0 ∧ State.reset.set.spoiled = 0
    ∧ State.reset.set.answerTime = 0 ∧ State.reset.set.badFrames = 0 ∧ State.reset.set.outOfTurn = 0 ∧ State.reset.set.spoiledTotal = 0
    ∧ State.reset.set.attempt = none ∧ State.reset.set.tx = none ∧ State.reset.set.request = none
    ∧ State.reset.slip.privMask = 1#16 ∧ State.reset.clock.tod = 0 ∧ State.reset.clock.ms = 0 ∧ State.reset.clock.clockSet = false
    ∧ State.reset.desk.recallGuard = 10 ∧ State.reset.desk.bracketLimit = 2000 ∧ State.reset.links.idle = 5000
    ∧ State.reset.intake.takeSilence = 60 ∧ State.reset.page.attemptLimit = 3 ∧ State.reset.page.lockLimit = 5000
    ∧ State.reset.set.state = .down ∧ State.reset.set.rate = 0 ∧ State.reset.set.maxRate = 5 ∧ State.reset.set.workingMax = 5
    ∧ State.reset.set.answerTimeout = 20 ∧ State.reset.fault.enables = 0xF#4 ∧ State.reset.fault.latch = false
    ∧ State.reset.copyBlocks = []
    ∧ (∀ n, State.reset.bankOf n = ⟨false, false, false, false, 0, 0, 0⟩)
    ∧ (∀ n, State.reset.story n =
        { custody := .free, slug := List.replicate 12 0x20#8, cls := .routine, chain := [], filling := none, truncated := false, gapped := false
          entryTime := 0, takeTime := 0, fit := ⟨none, .none, 0, false, 0, [], false, false⟩, placements := [], bracketRef := none
          lastBracket := .none })
    ∧ (∀ p, State.reset.position p = ⟨false, 0, 0, 0, 0, false, []⟩)
    ∧ (∀ d, (State.reset.deskEntry d).makeup = false)
    ∧ (State.reset.deskEntry 7).name = [0x44#8, 0x45#8, 0x53#8, 0x4B#8, 0x30#8, 0x37#8]
    ∧ (∀ k, (State.reset.link k).state = .off) ∧ (∀ k, (State.reset.line k).take = .idle ∧ (State.reset.line k).rate = 3)
    ∧ (∀ e, (State.reset.editionOf e).isOpen = true ∧ (State.reset.editionOf e).deadline = none)
    ∧ ∀ font code, font ≤ 3 → 0x20 ≤ code → code ≤ 0x7F → State.reset.width font code = if code = 0x20 then 5 else 9

/-- The reset state meets every invariant stated below. -/
def Obligations.ResetMeetsEveryInvariant : Prop :=
  State.reset.tablesCanonical ∧ State.reset.banksSound ∧ State.reset.clockInRange ∧ State.reset.settingsInRange
    ∧ State.reset.listsBounded ∧ State.reset.outputQueueSound

/-! ### Invariants that every step keeps, and whole-machine rules -/

/-- Every step keeps the store and the tables of views, positions and pages in canonical form (log 3). -/
def Obligations.EveryStepKeepsTheTablesCanonical : Prop :=
  ∀ s t : State, s.tablesCanonical → step s = .next t → t.tablesCanonical

/-- R179, its first sentence, over every step: the banks stay sound, and a held uncorrected record is never replaced by a corrected one. -/
def Obligations.EveryStepKeepsTheFaultBanksSound : Prop :=
  ∀ s t : State, s.banksSound → step s = .next t → t.banksSound ∧ ∀ n, (s.bankOf n).keepsUncorrected (t.bankOf n)

/-- The Clock's ranges (section 3.5) and the ranges of every setting (R3, R60, R75, R118, R130, R151, R168) hold after every step. -/
def Obligations.EveryStepKeepsClockAndSettingsInRange : Prop :=
  ∀ s t : State, s.clockInRange → s.settingsInRange → step s = .next t → t.clockInRange ∧ t.settingsInRange

/-- R11, R19, R133: the scrub queue, the hands and the FIFOs stay within their bounds at every step. -/
def Obligations.EveryStepKeepsTheListsBounded : Prop :=
  ∀ s t : State, s.listsBounded → step s = .next t → t.listsBounded

/-- R150, its first sentence, over every step. -/
def Obligations.EveryStepKeepsTheOutputQueueSound : Prop :=
  ∀ s t : State, s.tablesCanonical → s.outputQueueSound → step s = .next t → t.outputQueueSound

/-- Only the two write kinds and the part's own writes change a byte of the store; a scrub writes back the data that stands there (R11). That
power-on leaves the store is log 18, and that a failed bit leaves a word's data is log 4. -/
def Obligations.OnlyStoringCommandsChangeTheStore : Prop :=
  ∀ (c : Instr) (s t : State), storing c = false → exec c s = .next t → s.keepsStore t

/-- R25, its first sentence: a WRITE that changes a byte of the Copy Area finds its story HELD by the tagged position,
that position served by the agent, the story not setting-locked and the block not filling; it changes no byte outside its word. -/
def Obligations.WriteChangesOnlyHeldCopy : Prop :=
  ∀ (agent : Fin 16) (addr : BitVec 24) (be : BitVec 4) (data : Word) (tag : Option (Fin 128)) (s t : State),
    s.region (addr.toNat / 4 * 4) = .copyArea → exec (.write agent addr be data tag) s = .next t →
    let a := addr.toNat / 4 * 4
    let e := s.blockEntry (a / 1024)
    s.keepsStoreBut t a 4 ∧ (¬ s.keepsStore t → e.owner ≠ 0 ∧ ∃ p, tag = some p ∧ (s.story e.owner).custody = .held p.val
      ∧ (s.position p.val).agent = agent.val ∧ s.locked e.owner = false ∧ e.index < (s.story e.owner).filled)

/-! ### The check of the screen links -/

/-- R114, R115: a header with its own check is used as it stands; with any one of its 30 bits wrong it is put right and used. R115: a header
with two of its 30 bits wrong is discarded, and so is one with bit 6 or 7 of byte 3 set. -/
def Obligations.HeaderChecksCorrectOneBitAndFindTwo : Prop :=
  (∀ b0 b1 b2 : Nat, let data := BitVec.ofNat 24 (b0 % 256 + 256 * (b1 % 256) + 65536 * (b2 % 256))
    checkHeader (makeHeader b0 b1 b2) = .used data false
      ∧ ∀ i, i < 30 → checkHeader (makeHeader b0 b1 b2 ^^^ BitVec.ofNat 32 (2 ^ i)) = .used data true)
  ∧ ((∀ b0 b1 b2 i j : Nat, i < j → j < 30 →
      checkHeader (makeHeader b0 b1 b2 ^^^ BitVec.ofNat 32 (2 ^ i) ^^^ BitVec.ofNat 32 (2 ^ j)) = .discarded)
    ∧ ∀ h : BitVec 32, 2 ^ 30 ≤ h.toNat → checkHeader h = .discarded)

/-! ### Chapter 11: settings, fault banks and restarts -/

/-- Table 11-3 and R181: a write transfer of a setting item without a row of its own is stored, clamped as its rule gives; one of an item with a
row of its own, or of a command, does what that row does; one of an unknown or read-only item, or short of data bytes, changes nothing (log 42).
A read transfer drives the item's bytes. A whole transfer is one command (log 17; a font index above 3: log 48). Section 5.2 and section 8.1: a
width entry is stored clamped, and a width that differs queues every story with a spec that is neither queued nor being counted; a wire line's
settings are stored clamped, and clearing the enable of a line in ACTIVE is taken as a break (log 27), while a break lasts too
(log 71). -/
def Obligations.SettingWritesAreClampedAndStored : Prop :=
  ((∀ (s : State) (index a b : Byte) (rest : List Byte), let one := a.toNat; let two := a.toNat + 256 * b.toNat
    exec (.settingWrite 0x01 index (a :: rest)) s = .next { s with setup := { s.setup with staged := { s.setup.staged with
        storeMiB := if one < 6 then 4 else if one < 10 then 8 else if one < 14 then 12 else 16 } } }
      ∧ exec (.settingWrite 0x02 index (a :: b :: rest)) s = .next { s with setup := { s.setup with staged := { s.setup.staged with
          copyFirst := min 16383 two } } }
      ∧ exec (.settingWrite 0x03 index (a :: b :: rest)) s = .next { s with setup := { s.setup with staged := { s.setup.staged with
          copyCount := max 64 (min 16384 two) } } }
      ∧ exec (.settingWrite 0x04 index (a :: b :: rest)) s = .next { s with setup := { s.setup with staged := { s.setup.staged with
          slipBase := min 16376 two } } }
      ∧ exec (.settingWrite 0x08 index (a :: b :: rest)) s = .next { s with slip := { s.slip with privMask := BitVec.ofNat 16 two } }
      ∧ exec (.settingWrite 0x09 index (a :: rest)) s = .next { s with desk := { s.desk with recallGuard := min 60 one } }
      ∧ exec (.settingWrite 0x0A index (a :: b :: rest)) s
          = .next { s with desk := { s.desk with bracketLimit := max 100 (min 10000 two) } }
      ∧ exec (.settingWrite 0x0B index (a :: b :: rest)) s
          = .next { s with links := { s.links with idle := if two = 0 then 0 else max 500 (min 60000 two) } }
      ∧ exec (.settingWrite 0x0D index (a :: b :: rest)) s = .next { s with intake := { s.intake with takeSilence := min 600 two } }
      ∧ exec (.settingWrite 0x0F index (a :: rest)) s = .next { s with page := { s.page with attemptLimit := max 1 (min 7 one) } }
      ∧ exec (.settingWrite 0x10 index (a :: b :: rest)) s
          = .next { s with page := { s.page with lockLimit := max 250 (min 10000 two) } }
      ∧ exec (.settingWrite 0x18 index (a :: rest)) s = .next { s with fault := { s.fault with enables := BitVec.ofNat 4 one } })
  ∧ (∀ (s : State) (item index : Byte) (data : List Byte), item.toNat < 128 →
      item.toNat ∉ [0x01, 0x02, 0x03, 0x04, 0x08, 0x09, 0x0A, 0x0B, 0x0C, 0x0D, 0x0E, 0x0F, 0x10, 0x11, 0x12, 0x18, 0x21, 0x30] →
      exec (.settingWrite item index data) s = .next s)
  ∧ (∀ (s : State) (index : Byte) (data : List Byte),
      exec (.settingWrite 0x0C index data) s = exec (.wireLineWrite index data) s
        ∧ exec (.settingWrite 0x0E index data) s = exec (.widthEntryWrite index data) s
        ∧ exec (.settingWrite 0x11 index data) s = exec (.maximumRateWrite data) s
        ∧ exec (.settingWrite 0x12 index data) s = exec (.answerTimeoutWrite data) s
        ∧ exec (.settingWrite 0x21 index data) s = exec (.faultBankClear index data) s
        ∧ exec (.settingWrite 0xA2 index data) s = exec .faultSummary s
        ∧ exec (.settingWrite 0x30 index (1 :: data)) s = exec .coldRestart s
        ∧ exec (.settingWrite 0x30 index (2 :: data)) s = exec .warmRestart s
        ∧ exec (.settingWrite 0x30 index (3 :: data)) s = exec .passive s
        ∧ ∀ b : Byte, b.toNat = 0 ∨ 3 < b.toNat → exec (.settingWrite 0x30 index (b :: data)) s = .next s)
  ∧ (∀ (s : State) (index : Byte) (data : List Byte),
      let one (n : Nat) : List Byte := [BitVec.ofNat 8 n]
      let two (n : Nat) : List Byte := [BitVec.ofNat 8 n, BitVec.ofNat 8 (n / 256)]
      let drives (first : Byte) (bytes : List Byte) : Prop :=
        exec (.settingWrite first index data) s = .next { s with setup := { s.setup with dataOut := bytes } }
      let g := s.path.regions
      let l := s.line (min 7 index.toNat)
      let font := min 3 index.toNat
      let code := tget (fun _ => 0x20) s.fit.lastCode font
      let b := s.bankOf (if index = 0 then .store else if index = 1 then .screen else if index = 2 then .wire else .set)
      drives 0x81 (one s.setup.staged.storeMiB) ∧ drives 0x82 (two s.setup.staged.copyFirst) ∧ drives 0x83 (two s.setup.staged.copyCount)
        ∧ drives 0x84 (two s.setup.staged.slipBase)
        ∧ drives 0x85 (one g.storeMiB ++ two g.copyFirst ++ two g.copyCount ++ two g.slipBase)
        ∧ drives 0x88 (two s.slip.privMask.toNat) ∧ drives 0x89 (one s.desk.recallGuard) ∧ drives 0x8A (two s.desk.bracketLimit)
        ∧ drives 0x8B (two s.links.idle)
        ∧ drives 0x8C (one l.rate ++ one l.dataBits ++ one l.parity ++ one l.stopBits ++ one l.desk ++ one l.enable.toNat)
        ∧ drives 0x8D (two s.intake.takeSilence) ∧ drives 0x8E (one code ++ one (s.width font code)) ∧ drives 0x8F (one s.page.attemptLimit)
        ∧ drives 0x90 (two s.page.lockLimit) ∧ drives 0x91 (one s.set.maxRate) ∧ drives 0x92 (one s.set.answerTimeout)
        ∧ drives 0x98 (one s.fault.enables.toNat)
        ∧ drives 0xA0 (one (b.valid.toNat + 2 * b.overflow.toNat + 4 * b.uncorrected.toNat + 8 * b.locationValid.toNat) ++ one b.code
            ++ [BitVec.ofNat 8 b.location, BitVec.ofNat 8 (b.location / 256), BitVec.ofNat 8 (b.location / 65536),
              BitVec.ofNat 8 (b.location / 16777216)] ++ two b.count)
        ∧ drives 0xB1 (one (if s.active then 1 else 0) ++ one s.setup.lastCommand ++ one s.setup.outcome)
        ∧ drives 0x80 [0] ∧ drives 0xFF [0])
  ∧ ∀ (s : State) (item index b : Byte), item.toNat < 128 →
      exec (.settingWrite item index []) s = .next s
        ∧ (item.toNat ∈ [0x02, 0x03, 0x04, 0x08, 0x0A, 0x0B, 0x0C, 0x0D, 0x0E, 0x10] → exec (.settingWrite item index [b]) s = .next s))
  ∧ ((∀ (s : State) (index c w : Byte) (rest : List Byte),
    let font := min 3 index.toNat
    let code := max 0x20 (min 0x7F c.toNat)
    let width := max 1 (min 36 w.toNat)
    ∃ t, exec (.widthEntryWrite index (c :: w :: rest)) s = .next t ∧ t.width font code = width
      ∧ (∀ f k, f ≤ 3 → 0x20 ≤ k → k ≤ 0x7F → (f, k) ≠ (font, code) → t.width f k = s.width f k)
      ∧ tget (fun _ => 0x20) t.fit.lastCode font = code
      ∧ (s.width font code = width → t = { s with fit := { s.fit with widths := t.fit.widths, lastCode := t.fit.lastCode } })
      ∧ (s.width font code ≠ width → ∀ n, (s.story n).fit.spec ≠ none → (s.story n).fit.state ≠ .queued →
          (s.story n).fit.state ≠ .counting → (t.story n).fit.state = .queued ∧ n ∈ t.fit.queue)
      ∧ t = { s with fit := t.fit, dir := t.dir, notices := t.notices })
  ∧ ∀ (s : State) (index rate dataBits parity stopBits desk enable : Byte) (rest : List Byte),
    let k := min 7 index.toNat
    ∃ t, exec (.wireLineWrite index (rate :: dataBits :: parity :: stopBits :: desk :: enable :: rest)) s = .next t
      ∧ (t.line k).rate = min 6 rate.toNat ∧ (t.line k).dataBits = max 7 (min 8 dataBits.toNat)
      ∧ (t.line k).parity = min 2 parity.toNat ∧ (t.line k).stopBits = max 1 (min 2 stopBits.toNat)
      ∧ (t.line k).desk = min 15 desk.toNat ∧ (t.line k).enable = (enable != 0)
      ∧ (t.line k).breaks = (if (s.line k).enable ∧ enable = 0 ∧ s.active then min 65535 ((s.line k).breaks + 1) else (s.line k).breaks)
      ∧ (∀ j, j ≠ k → t.line j = s.line j) ∧ t = { s with intake := t.intake })

/-- Section 10.3: a write of the maximum rate sets both maxima and, in ACTIVE, starts the link anew when any frame in progress has ended;
an attempt in progress is reported RESTART, and its end sets the CHECK count to 0. That the attempt and any cancel go at once, and that a TEXT frame in progress then ends with what
the read-ahead holds, spoiled when that is too little, is log 40. A write of the answer timeout is stored, and starts a DOWN link in ACTIVE. -/
def Obligations.SetLinkSettingWritesRestartTheLink : Prop :=
  ∀ (s : State) (b : Byte) (rest : List Byte), let m := max 1 (min 5 b.toNat); let w := max 1 (min 60 b.toNat)
    (s.active = false → exec (.maximumRateWrite (b :: rest)) s = .next { s with set := { s.set with maxRate := m, workingMax := m } })
    ∧ (s.active = true → ∃ t, exec (.maximumRateWrite (b :: rest)) s = .next t
        ∧ t.set.maxRate = m ∧ t.set.workingMax = m ∧ t.set.attempt = none ∧ t.set.request = none ∧ t.set.cancel = none
        ∧ (s.set.tx = none → t.set.state = .starting ∧ t.set.tx = some (.offer m) ∧ t.set.rate = 0 ∧ t.set.offerCount = 1
            ∧ t.set.held = false ∧ t.set.checkCount = 0 ∧ t.set.spoiled = 0)
        ∧ (s.set.tx ≠ none → t.set.startDue = true ∧ t.set.tx ≠ none ∧ t.set.checkCount = if s.set.attempt = none then s.set.checkCount else 0)
        ∧ ((∀ n payload, s.set.tx ≠ some (.text n payload false)) → s.set.tx ≠ none → t.set.tx = s.set.tx)
        ∧ (∀ n payload pass, s.set.tx = some (.text n payload false) → s.set.stage = .sending pass →
            let all := payload ++ pass.ahead.flatten.take (n - payload.length)
            t.set.tx = some (.text n all (decide (all.length < n))))
        ∧ (s.set.attempt ≠ none → s.set.cancel = none → (∀ r, .cancel r ∉ s.notices) → t.notices = s.notices ++ [.outcome .restart])
        ∧ (s.set.attempt = none → (∀ r, .cancel r ∉ s.notices) → t.notices = s.notices)
        ∧ t = { s with set := t.set, notices := t.notices, path := { s.path with orphan := t.path.orphan } })
    ∧ (s.active = false ∨ s.set.state ≠ .down →
        exec (.answerTimeoutWrite (b :: rest)) s = .next { s with set := { s.set with answerTimeout := w } })
    ∧ (s.active = true → s.set.state = .down → s.set.tx = none → ∃ t, exec (.answerTimeoutWrite (b :: rest)) s = .next t
        ∧ t.set.answerTimeout = w ∧ t.set.state = .starting ∧ t.set.tx = some (.offer s.set.workingMax) ∧ t.set.offerCount = 1
        ∧ t = { s with set := t.set, path := { s.path with orphan := t.path.orphan } })

/-- Sections 11.1 and 11.2: a record is held or counted at its bank and may assert the latch; a clear empties one bank; the summary is read
and releases the latch. -/
def Obligations.FaultBanksTakeRecordsAndAreCleared : Prop :=
  (∀ (s : State) (r : FaultRecord) (rest : List Notice), s.oldest (fun | .fault _ => true | _ => false) (.fault r) rest →
    ∃ t, exec .faultRecord s = .next t ∧ t.notices = rest
      ∧ (t.bankOf r.bank).valid = true ∧ (t.bankOf r.bank).overflow = ((s.bankOf r.bank).valid || (s.bankOf r.bank).overflow)
      ∧ (t.bankOf r.bank).count = min 65535 ((s.bankOf r.bank).count + 1)
      ∧ ((s.bankOf r.bank).valid = false ∨ (r.uncorrected = true ∧ (s.bankOf r.bank).uncorrected = false) →
          (t.bankOf r.bank).code = r.code ∧ (t.bankOf r.bank).location = r.location
            ∧ (t.bankOf r.bank).locationValid = r.locationValid ∧ (t.bankOf r.bank).uncorrected = r.uncorrected)
      ∧ ((s.bankOf r.bank).valid = true → ¬ (r.uncorrected = true ∧ (s.bankOf r.bank).uncorrected = false) →
          (t.bankOf r.bank).code = (s.bankOf r.bank).code ∧ (t.bankOf r.bank).location = (s.bankOf r.bank).location
            ∧ (t.bankOf r.bank).locationValid = (s.bankOf r.bank).locationValid
            ∧ (t.bankOf r.bank).uncorrected = (s.bankOf r.bank).uncorrected)
      ∧ (∀ n, n ≠ r.bank → t.bankOf n = s.bankOf n)
      ∧ t.fault.latch = (s.fault.latch || (!(s.bankOf r.bank).valid && s.fault.enables.getLsbD r.bank.index))
      ∧ t = { s with notices := t.notices, fault := t.fault } ∧ t.fault.enables = s.fault.enables)
  ∧ (∀ (s : State) (index b : Byte) (rest : List Byte),
      exec (.faultBankClear index (b :: rest)) s = .next { s with fault :=
        if index = 0 then { s.fault with store := {} } else if index = 1 then { s.fault with screen := {} }
        else if index = 2 then { s.fault with wire := {} } else { s.fault with set := {} } })
  ∧ ∀ s : State, exec .faultSummary s = .next { s with
      setup := { s.setup with dataOut := [BitVec.ofNat 8 (s.fault.store.valid.toNat + 2 * s.fault.screen.valid.toNat
        + 4 * s.fault.wire.valid.toNat + 8 * s.fault.set.valid.toNat + 16 * s.fault.latch.toNat)] }
      fault := { s.fault with latch := false } }

/-- R49: FAULTS, its BADARG tested before its NOPRIV (the model's choice: log 61). -/
def Obligations.FaultsReadsAndClearsABank : Prop :=
  (∀ (s : State) (v : Service), s.handed .faults v →
    let bank := byteAt (v.word 1) 0
    let clear := byteAt (v.word 1) 1
    let name := if bank = 0 then BankName.store else if bank = 1 then .screen else if bank = 2 then .wire else .set
    let b := s.bankOf name
    let flags := b.valid.toNat + 2 * b.overflow.toNat + 4 * b.uncorrected.toNat + 8 * b.locationValid.toNat
    exec .faultsSlip s = .next
      (if 3 < bank ∨ 1 < clear then s.answered v 0 0 (result 0x13 1 0 0)
      else if clear = 1 ∧ s.slip.privMask.getLsbD v.agent = false then s.answered v 0 0 (result 0x16 0 0 0)
      else ((if clear = 1 then s.putBank name {} else s).answered v (packNat b.location) (packNat b.count) (result 0x10 flags b.code 0))))
  ∧ ∀ (b : Bank) (r : FaultRecord), b = {} → (b.take r).count = 1 ∧ (b.take r).valid = true ∧ (b.take r).overflow = false
      ∧ (b.take r).code = r.code ∧ (b.take r).location = r.location ∧ (b.take r).uncorrected = r.uncorrected

/-- R182: the structural check, in its order. Section 11.4: a COLD RESTART whose check passes, or fails; PASSIVE, taken in either part
state (in PASSIVE: log 43); and power-on, which keeps the store and the grant in progress (log 18) and rests the copy-bus answer (log 37). -/
def Obligations.ColdRestartChecksAndEmpties : Prop :=
  (∀ g : Regions, 1 ≤ g.copyCount →
    (g.check = 2 ↔ g.storeMiB * 1048576 < (g.copyFirst + g.copyCount) * 1024)
    ∧ (g.check = 3 ↔ (g.copyFirst + g.copyCount) * 1024 ≤ g.storeMiB * 1048576 ∧ g.storeMiB * 1048576 < g.slipBase * 1024 + 8192)
    ∧ (g.check = 4 ↔ (g.copyFirst + g.copyCount) * 1024 ≤ g.storeMiB * 1048576 ∧ g.slipBase * 1024 + 8192 ≤ g.storeMiB * 1048576
        ∧ ∃ b, g.slipBase ≤ b ∧ b < g.slipBase + 8 ∧ g.copyFirst ≤ b ∧ b < g.copyFirst + g.copyCount)
    ∧ (g.check = 1 ∨ g.check = 2 ∨ g.check = 3 ∨ g.check = 4) ∧ (⟨16, 16, 12288, 0⟩ : Regions).check = 1)
  ∧ ((∀ s : State, s.setup.staged.check ≠ 1 → exec .coldRestart s
    = .next { s with setup := { s.setup with lastCommand := 1, outcome := s.setup.staged.check } })
  ∧ (∀ s : State, s.setup.staged.check = 1 → ∃ t, exec .coldRestart s = .next t
      ∧ t.setup = { s.setup with partState := .active, lastCommand := 1, outcome := 1 } ∧ t.path.regions = s.setup.staged
      ∧ t.dir = {} ∧ t.desk = { s.desk with baskets := [], brackets := [] } ∧ t.screen = {}
      ∧ t.fit = { s.fit with queue := [], count := none, request := none, bracketed := [] }
      ∧ t.page = { attemptLimit := s.page.attemptLimit, lockLimit := s.page.lockLimit }
      ∧ t.slip = { privMask := s.slip.privMask, attention := s.slip.attention }
      ∧ t.fault = s.fault ∧ t.clock.tod = s.clock.tod ∧ t.clock.ms = s.clock.ms ∧ t.clock.clockSet = s.clock.clockSet
      ∧ t.path.pair = none ∧ t.path.streak = 0 ∧ t.path.refusals = []
      ∧ t.path.scrubQueue = s.path.scrubQueue.filter (fun a => decide (a < s.setup.staged.storeMiB * 1048576))
      ∧ t.links.idle = s.links.idle ∧ (∀ k, k < 16 → (t.link k).state = .waking ∧ (t.link k).wakeTry = 1 ∧ (t.link k).rowsSent = 0)
      ∧ (∀ k, k < 8 → (t.line k).take = .idle ∧ (t.line k).fifo = [] ∧ (t.line k).held = false ∧ (t.line k).received = 0
          ∧ (t.line k).rate = (s.line k).rate ∧ (t.line k).enable = (s.line k).enable)
      ∧ t.set.maxRate = s.set.maxRate ∧ t.set.workingMax = s.set.maxRate
      ∧ (s.set.tx = none → t.set.state = .starting ∧ t.set.tx = some (.offer s.set.maxRate))
      ∧ t.mem = s.mem ∧ t.flaws = s.flaws ∧ t.pending = s.pending)
  ∧ (∀ s : State, s.active = false → exec .passive s = .next { s with setup := { s.setup with lastCommand := 3, outcome := 1 } })
  ∧ (∀ s : State, s.active = true → ∃ t, exec .passive s = .next t
      ∧ t.setup = { s.setup with partState := .passive, lastCommand := 3, outcome := 1 }
      ∧ t.dir = {} ∧ t.desk = { s.desk with baskets := [], brackets := [] } ∧ t.screen = {}
      ∧ t.fit = { s.fit with queue := [], count := none, request := none, bracketed := [] }
      ∧ t.page = { attemptLimit := s.page.attemptLimit, lockLimit := s.page.lockLimit }
      ∧ t.slip = { privMask := s.slip.privMask, attention := s.slip.attention }
      ∧ t.fault = s.fault ∧ t.clock.tod = s.clock.tod ∧ t.path.regions = s.path.regions ∧ t.path.pair = none
      ∧ t.path.scrubQueue = s.path.scrubQueue ∧ (∀ k, k < 16 → (t.link k).state = .off) ∧ t.set.state = .down
      ∧ t.set.workingMax = 5 ∧ t.set.maxRate = s.set.maxRate ∧ t.set.answerTimeout = s.set.answerTimeout
      ∧ t.mem = s.mem ∧ t.flaws = s.flaws)
  ∧ ∀ s : State, ∃ t, exec .powerOn s = .next t ∧ t = { State.reset with pending := s.pending, mem := s.mem, flaws := s.flaws, path := t.path }
      ∧ t.path = { State.reset.path with port := s.path.port, orphan := t.path.orphan })

/-- Section 11.4: WARM RESTART is refused in PASSIVE with NOTACTIVE. In ACTIVE an OPEN, EXTEND or ADOPT whose result grant has not begun is
undone and every slip abandoned, its slots listed and the first ABANDONED result asked for (R50), every bracket ends, a count is requeued, a page SENDING is
QUEUED at the head, the takes end, and the links and the set link start anew, the set link once any frame in progress has ended (log 40). The rows
in hand are marked again: a composed one also where its frame has begun (the model's choice: log 66).
The wakes begin in the same event (log 69). The tables stay but for what these change: the Story Table
and Block Map, positions, hands, desks and baskets, views, dirty maps and pages, with every setting, the store, the Clock, the banks and the
refusal records. -/
def Obligations.WarmRestartKeepsTablesAndEndsWork : Prop :=
  (∀ s : State, s.active = false → exec .warmRestart s = .next { s with setup := { s.setup with lastCommand := 2, outcome := 5 } })
  ∧ ∀ s : State, s.active = true → ∃ t, exec .warmRestart s = .next t
      ∧ t.setup = { s.setup with lastCommand := 2, outcome := 1 }
      ∧ t.path.pair = none ∧ t.path.streak = 0 ∧ t.path.refusals = s.path.refusals ∧ t.path.scrubQueue = s.path.scrubQueue
      ∧ t.path.regions = s.path.regions
      ∧ t.slip.pendingLists = [] ∧ t.slip.nextAgent = s.slip.nextAgent ∧ t.slip.privMask = s.slip.privMask
      ∧ ((∀ a w5 w6 w7, s.path.port ≠ some (.slip (.result a w5 w6 w7))) → t.slip.service = none)
      ∧ (let finishing := s.path.orphan = false ∧ ∃ a w5 w6 w7, s.path.port = some (.slip (.result a w5 w6 w7))
        let waiting := (List.range 16).flatMap fun a => (s.pendingOf a).map fun slot => (a, slot)
        ∀ served : List (Nat × Nat), (finishing ∨ s.slip.service = none → served = []) →
          (¬ finishing → ∀ v, s.slip.service = some v → served = [(v.agent, v.slot)]) →
          t.slip.abandon = s.slip.abandon ++ served ++ waiting ∧ t.slip.heldPosts = s.slip.heldPosts
          ∧ (∀ a, a ∈ t.slip.affected ↔ a ∈ s.slip.affected ∨ ∃ slot, (a, slot) ∈ served ++ waiting)
          ∧ (∀ a slot later, s.slip.abandon ++ served ++ waiting = (a, slot) :: later → served ++ waiting ≠ [] →
              t.slip.request = some (.abandoned (s.path.regions.slipBase * 1024 + a * 512 + slot * 32)))
          ∧ (finishing → t.slip.service = s.slip.service))
      ∧ (∀ k, k < 8 → (t.bracketAt k).inUse = false)
      ∧ (∀ k, s.sendingPage = some k → (t.pageAt k).state = .queued ∧ (t.pageAt k).lastOutcome = .restart
          ∧ (t.pageAt k).attempts = (s.pageAt k).attempts ∧ (t.pageAt k).setTime = (s.pageAt k).setTime
          ∧ (t.pageAt k).placements = (s.pageAt k).placements.map fun x => (x.1, { x.2 with attempt := none }))
      ∧ (∀ j, s.sendingPage ≠ some j → t.pageAt j = s.pageAt j)
      ∧ t.page.queue = s.page.queue ∧ t.page.editions = s.page.editions ∧ t.fit.count = none ∧ t.fit.widths = s.fit.widths
      ∧ t.page.attemptLimit = s.page.attemptLimit ∧ t.page.lockLimit = s.page.lockLimit ∧ t.page.bracketed = s.page.bracketed
      ∧ t.fit.lastCode = s.fit.lastCode ∧ t.fit.bracketed = s.fit.bracketed
      ∧ (∀ c, s.fit.count = some c → t.fit.queue = c.story :: s.fit.queue) ∧ (s.fit.count = none → t.fit.queue = s.fit.queue)
      ∧ (∀ k, k < 16 → ({ s.link k with hand := none } : Link).wakeBegun (t.link k) 1
          ∧ (twf (fun _ => ({} : Drop)) (s.link k).drops = true →
              ∀ d, (t.link k).drop d = { (s.link k).drop d with state := .absent, answered := false }))
      ∧ t.links.idle = s.links.idle
      ∧ (∀ k, k < 8 → (t.line k).fifo = [] ∧ (t.line k).marks = [] ∧ (t.line k).held = (s.line k).held
          ∧ ((s.line k).take = .header ∨ (s.line k).take = .body ∨ (s.line k).take = .truncating → (t.line k).take = .ending)
          ∧ ((s.line k).take = .discarding → (t.line k).take = .idle)
          ∧ (t.line k).rate = (s.line k).rate ∧ (t.line k).dataBits = (s.line k).dataBits ∧ (t.line k).parity = (s.line k).parity
          ∧ (t.line k).stopBits = (s.line k).stopBits ∧ (t.line k).desk = (s.line k).desk ∧ (t.line k).enable = (s.line k).enable
          ∧ (t.line k).received = (s.line k).received ∧ (t.line k).delivered = (s.line k).delivered)
      ∧ t.intake.takeSilence = s.intake.takeSilence
      ∧ (s.set.tx = none → t.set.state = .starting ∧ t.set.tx = some (.offer s.set.maxRate))
      ∧ (s.set.tx ≠ none → t.set.startDue = true ∧ t.set.attempt = none ∧ t.set.cancel = none)
      ∧ t.set.maxRate = s.set.maxRate ∧ t.set.workingMax = s.set.maxRate ∧ t.set.answerTimeout = s.set.answerTimeout
      ∧ t.set.badFrames = s.set.badFrames ∧ t.set.outOfTurn = s.set.outOfTurn ∧ t.set.spoiledTotal = s.set.spoiledTotal
      ∧ t.clock = s.clock ∧ t.fault = s.fault ∧ t.mem = s.mem ∧ t.flaws = s.flaws ∧ t.pending = s.pending
      ∧ t.screen.views = s.screen.views ∧ t.screen.bracketed = s.screen.bracketed ∧ t.screen.requests = []
      ∧ (∀ p r, (s.dirtyMap p).getLsbD r = true → (t.dirtyMap p).getLsbD r = true)
      ∧ (∀ k h, k < 16 → (s.link k).hand = some h → (s.position h.position).inUse = true → h.row < 24 →
          h.composed = true ∨ (s.link k).frame = none → (t.dirtyMap h.position).getLsbD h.row = true)
      ∧ t.dir.desks = s.dir.desks ∧ t.desk.recallGuard = s.desk.recallGuard ∧ t.desk.bracketLimit = s.desk.bracketLimit
      ∧ (let finishing := s.path.orphan = false ∧ ∃ a w5 w6 w7, s.path.port = some (.slip (.result a w5 w6 w7))
        let ofLine (n : Nat) : Prop := ∃ k, k < 8 ∧ (s.line k).story = n
        let bracketed (n : Nat) : Prop := ∃ k, k < 8 ∧ (s.bracketAt k).inUse = true ∧ (s.bracketAt k).story = n
        let counted (n : Nat) : Prop := ∃ c, s.fit.count = some c ∧ c.story = n
        (finishing ∨ (∀ v, s.slip.service = some v → v.undo = .nothing) →
          t.dir.positions = s.dir.positions ∧ t.desk.baskets = s.desk.baskets
          ∧ (∀ b, (s.blockEntry b).owner ≠ 0 → t.blockEntry b = s.blockEntry b)
          ∧ ∀ n, ¬ ofLine n → t.story n = { s.story n with
              bracketRef := (t.story n).bracketRef, lastBracket := (t.story n).lastBracket, fit := (t.story n).fit }
            ∧ (bracketed n → (t.story n).bracketRef = none ∧ (t.story n).lastBracket = .broken)
            ∧ (¬ bracketed n → (t.story n).bracketRef = (s.story n).bracketRef ∧ (t.story n).lastBracket = (s.story n).lastBracket)
            ∧ (counted n → (t.story n).fit = { (s.story n).fit with state := .queued, changedCount := false })
            ∧ (¬ counted n → (t.story n).fit = (s.story n).fit))
        ∧ (¬ finishing → ∀ v n, s.slip.service = some v → ¬ ofLine n → ¬ bracketed n → ¬ counted n →
          (v.undo = .freeStory n → (t.story n).custody = .free ∧ (t.story n).chain = [])
          ∧ (∀ len noticed, v.undo = .shorten n len noticed → (t.story n).chain = (s.story n).chain.take len ∧ (t.story n).filling = none
              ∧ (t.story n).custody = (s.story n).custody)))

/-! ### Chapter 1: the store path -/

/-- R4, its tests 1 to 5: the region of an address, in the rule's order. Sections 1.2 and 1.5: a READ at its grant: REFUSE BEYOND outside
the fitted store, and inside it, in every region, DONE or FAIL as its word decodes, with the record and the scrub offer. -/
def Obligations.RegionsAndReadsAreAnswered : Prop :=
  (∀ (s : State) (a : Nat), let g := s.path.regions
    let slip := g.slipBase * 1024 ≤ a ∧ a ≤ g.slipBase * 1024 + 8191
    let copy := g.copyFirst * 1024 ≤ a ∧ a < (g.copyFirst + g.copyCount) * 1024
    (s.region a = .beyond ↔ g.storeMiB * 1048576 ≤ a)
    ∧ (s.region a = .slipArea ↔ a < g.storeMiB * 1048576 ∧ s.setup.partState = .active ∧ slip)
    ∧ (s.region a = .copyArea ↔ a < g.storeMiB * 1048576 ∧ s.setup.partState = .active ∧ ¬ slip ∧ copy)
    ∧ (s.region a = .openArea ↔ a < g.storeMiB * 1048576 ∧ ¬ (s.setup.partState = .active ∧ (slip ∨ copy))))
  ∧ (∀ (agent : Fin 16) (addr : BitVec 24) (s : State), s.granted →
    let a := addr.toNat / 4 * 4
    let g : State := { s with path := { s.path with port := none, orphan := false } }
    let queue := if a ∈ s.path.scrubQueue ∨ 4 ≤ s.path.scrubQueue.length then s.path.scrubQueue else s.path.scrubQueue ++ [a]
    (s.path.regions.storeMiB * 1048576 ≤ a → ∃ t, exec (.read agent addr) s = .next t
      ∧ t.refusalOf agent = ⟨min 255 ((s.refusalOf agent).count + 1), a, .beyond⟩ ∧ (∀ b, b ≠ agent.val → t.refusalOf b = s.refusalOf b)
      ∧ t = { g with path := { g.path with refusals := t.path.refusals, answer := some ⟨agent, .refuse, none⟩ } })
    ∧ (a < s.path.regions.storeMiB * 1048576 →
      (s.ecc a = .clean → exec (.read agent addr) s
        = .next { g with path := { g.path with answer := some ⟨agent, .done, some (s.wordAt a)⟩ } })
      ∧ (s.ecc a = .corrected → exec (.read agent addr) s
        = .next { g with
            notices := s.notices ++ [.fault ⟨.store, 1, a, true, false⟩]
            path := { g.path with scrubQueue := queue, answer := some ⟨agent, .done, some (s.wordAt a)⟩ } })
      ∧ (s.ecc a = .uncorrected → exec (.read agent addr) s
        = .next { g with
            notices := s.notices ++ [.fault ⟨.store, 1, a, true, true⟩], path := { g.path with answer := some ⟨agent, .fail, none⟩ } })))

/-- Sections 1.3 and 1.4: a WRITE with all byte enables that its region lets land: its four bytes with fresh check bits, DONE, and the
posting notice in the Slip Area or the notices of an accepted write in the Copy Area; with no byte enable, DONE without an access. R10: a
WRITE with 1 to 3 byte enables that its region lets land is merged, as the read of its word decodes, with the same notices in the Copy Area. -/
def Obligations.WritesLandAndMerge : Prop :=
  (∀ (agent : Fin 16) (addr : BitVec 24) (data : Word) (tag : Option (Fin 128)) (s : State), s.granted →
    let a := addr.toNat / 4 * 4
    let base := s.path.regions.slipBase * 1024
    let e := s.blockEntry (a / 1024)
    let off := e.index * 1024 + a % 1024
    let lands (t : State) (sent : List Notice) : Prop :=
      t.storeHolds a (wordBytes data) ∧ s.keepsStoreBut t a 4 ∧ t.ecc a = .clean ∧ (∀ b, b ≠ a → t.ecc b = s.ecc b)
        ∧ t = { s with mem := t.mem, flaws := t.flaws, notices := s.notices ++ sent,
                       path := { s.path with port := none, orphan := false, answer := some ⟨agent, .done, none⟩ } }
    (s.region a = .openArea → ∃ t, exec (.write agent addr 0xF data tag) s = .next t ∧ lands t [])
    ∧ (s.region a = .slipArea → (a - base) / 512 = agent.val → ∃ t, exec (.write agent addr 0xF data tag) s = .next t
        ∧ lands t (if (a - base) % 32 / 4 = 7 ∧ data = 1 then [.posting agent ((a - base) % 512 / 32)] else []))
    ∧ (s.region a = .copyArea → ∀ p, tag = some p → e.owner ≠ 0 → (s.story e.owner).custody = .held p.val →
        (s.position p.val).agent = agent.val → e.index < (s.story e.owner).filled → s.locked e.owner = false →
        ∃ t, exec (.write agent addr 0xF data tag) s = .next t
          ∧ let w : WriteNote := ⟨e.owner, e.index, off, off / 64, agent, p⟩
            lands t ([.screenWrite w, .fitWrite w, .deskWrite w]
              ++ if (s.story e.owner).placements = [] then [] else [.pageWrite w]))
    ∧ ∀ v, s.testWrite agent a (tag.map Fin.val) = .go v → exec (.write agent addr 0 data tag) s
        = .next { s with path := { s.path with port := none, orphan := false, answer := some ⟨agent, .done, none⟩ } })
  ∧ (∀ (agent : Fin 16) (addr : BitVec 24) (be : BitVec 4) (data : Word) (tag : Option (Fin 128)) (v : Verdict) (s : State), s.granted →
    be ≠ 0 → be ≠ 0xF → let a := addr.toNat / 4 * 4
    s.testWrite agent a (tag.map Fin.val) = .go v →
    ∃ t, exec (.write agent addr be data tag) s = .next t
      ∧ (s.ecc a = .uncorrected → t = { s with
          notices := s.notices ++ [.fault ⟨.store, 2, a, true, true⟩]
          path := { s.path with port := none, orphan := false, answer := some ⟨agent, .fail, none⟩ } })
      ∧ (s.ecc a ≠ .uncorrected →
          (∀ i, i < 4 → t.byte (a + i) = if be.getLsbD i then (wordBytes data).getD i 0 else s.byte (a + i))
          ∧ s.keepsStoreBut t a 4 ∧ t.ecc a = .clean ∧ (∀ b, b ≠ a → t.ecc b = s.ecc b)
          ∧ (let merged : List Notice := s.notices ++ if s.ecc a = .corrected then [.fault ⟨.store, 2, a, true, false⟩] else []
            (v = .openArea ∨ v = .ownRing → t.notices = merged)
            ∧ ∀ n i p, v = .accepted n i → (s.story n).custody = .held p →
                let w : WriteNote := ⟨n, i, i * 1024 + a % 1024, (i * 1024 + a % 1024) / 64, agent, p⟩
                t.notices = merged ++ [.screenWrite w, .fitWrite w, .deskWrite w]
                  ++ if (s.story n).placements = [] then [] else [.pageWrite w])
          ∧ (∀ slot, .posting agent slot ∉ t.notices ∨ .posting agent slot ∈ s.notices)
          ∧ (s.ecc a = .clean → ∀ f, .fault f ∈ t.notices → .fault f ∈ s.notices)
          ∧ (s.ecc a = .corrected → .fault ⟨.store, 2, a, true, false⟩ ∈ t.notices)
          ∧ t = { s with mem := t.mem, flaws := t.flaws, notices := t.notices,
                         path := { s.path with port := none, orphan := false, answer := some ⟨agent, .done, none⟩ } }))

/-- Sections 1.4 and 2.5: the first failing test gives the verdict of a WRITE; a REFUSE enters its agent's refusal record, a RETRY for a
setting-locked story is reported, and neither changes the store. -/
def Obligations.RefusedAndRetriedWrites : Prop :=
  ∀ (agent : Fin 16) (addr : BitVec 24) (be : BitVec 4) (data : Word) (tag : Option (Fin 128)) (s : State), s.granted →
    let a := addr.toNat / 4 * 4
    let g : State := { s with path := { s.path with port := none, orphan := false } }
    let e := s.blockEntry (a / 1024)
    let st := s.story e.owner
    let refuse (r : Reason) : Prop := ∃ t, exec (.write agent addr be data tag) s = .next t
      ∧ t.refusalOf agent = ⟨min 255 ((s.refusalOf agent).count + 1), a, r⟩ ∧ (∀ b, b ≠ agent.val → t.refusalOf b = s.refusalOf b)
      ∧ t = { g with path := { g.path with refusals := t.path.refusals, answer := some ⟨agent, .refuse, none⟩ } }
    let retry (sent : List Notice) : Prop := exec (.write agent addr be data tag) s
      = .next { g with notices := s.notices ++ sent, path := { g.path with answer := some ⟨agent, .retry, none⟩ } }
    (s.region a = .beyond → refuse .beyond)
    ∧ (s.region a = .slipArea → (a - s.path.regions.slipBase * 1024) / 512 ≠ agent.val → refuse .ringowner)
    ∧ (s.region a = .copyArea →
        if e.owner = 0 then refuse .unowned
        else match tag with
          | none => refuse .notholder
          | some p =>
            if st.custody ≠ .held p.val then refuse .notholder
            else if (s.position p.val).agent ≠ agent.val then refuse .wrongagent
            else if s.locked e.owner = true then retry [.retryReport e.owner]
            else if st.filled ≤ e.index then retry []
            else True)

/-- R8: a LOCKED-READ that is let read opens a pair when its word decodes, and one refused, retried or not decoding opens none; the agent's
LOCKED-WRITE to the word lands under its verdict and closes it; any other transaction of the agent closes it and is handled as its own kind; other
agents meet RETRY; the second tick closes it; with none open a LOCKED-WRITE is a WRITE; what was held for the pair is then taken as if it came now: a
slip (R55; EXTEND and TRIM: log 15), a TAKE's story among them, or the pick (R160; after a slip: log 62). A pair opened since on another story holds
nothing back, and one open on the slip's story, or on a story of the page, holds it still (log 72). The tag of a LOCKED-READ is used in its test (log 7), and that of a LOCKED-WRITE closing its pair in nothing: the write's notice names the position that holds the
story (log 59). A write or a change on its way to the Fit Unit holds the pick (log 57). -/
def Obligations.LockedPairsOpenAndClose : Prop :=
  let pairOn (s : State) (n : Nat) : Prop := ∃ p i, s.path.pair = some p ∧ p.verdict = .accepted n i
  let target (s : State) (v : Service) (k : SlipKind) : Nat :=
    if k = .take then (if (v.word 2).toNat = 0 then (s.basketOf (byteAt (v.word 1) 0)).headD 0 else (v.word 2).toNat) else (v.word 1).toNat
  let slipWaits (s : State) : Prop := ∀ v k, s.slip.service = some v → v.phase = .held k → pairOn s (target s v k)
  (∀ (agent : Fin 16) (addr : BitVec 24) (tag : Option (Fin 128)) (v : Verdict) (s : State), s.granted →
      let a := addr.toNat / 4 * 4
      s.testWrite agent a (tag.map Fin.val) = .go v → s.ecc a = .clean →
      exec (.lockedRead agent addr tag) s = .next { s with path := { s.path with
        port := none, orphan := false, pair := some ⟨agent, a, v, 0⟩, answer := some ⟨agent, .done, some (s.wordAt a)⟩ } })
  ∧ (∀ (agent : Fin 16) (addr : BitVec 24) (be : BitVec 4) (data : Word) (tag : Option (Fin 128)) (s : State),
      let a := addr.toNat / 4 * 4
      (∀ v, s.granted → s.testWrite agent a (tag.map Fin.val) = .go v → s.ecc a = .corrected →
        ∃ t, exec (.lockedRead agent addr tag) s = .next t ∧ t = { s with
          notices := s.notices ++ [.fault ⟨.store, 1, a, true, false⟩]
          path := { s.path with
            port := none, orphan := false, pair := some ⟨agent, a, v, 0⟩, answer := some ⟨agent, .done, some (s.wordAt a)⟩
            scrubQueue := if a ∈ s.path.scrubQueue ∨ 4 ≤ s.path.scrubQueue.length then s.path.scrubQueue else s.path.scrubQueue ++ [a] } })
      ∧ (∀ v, s.granted → s.testWrite agent a (tag.map Fin.val) = .go v → s.ecc a = .uncorrected →
        exec (.lockedRead agent addr tag) s = .next { s with
          notices := s.notices ++ [.fault ⟨.store, 1, a, true, true⟩]
          path := { s.path with port := none, orphan := false, answer := some ⟨agent, .fail, none⟩ } })
      ∧ (s.granted → (∃ r, s.testWrite agent a (tag.map Fin.val) = .refuse r) ∨ (∃ n b, s.testWrite agent a (tag.map Fin.val) = .retry n b) →
        exec (.lockedRead agent addr tag) s = exec (.write agent addr be data tag) s
          ∧ ∃ t, exec (.lockedRead agent addr tag) s = .next t ∧ t.path.pair = none)
      ∧ (s.path.pair = none → exec (.lockedWrite agent addr be data tag) s = exec (.write agent addr be data tag) s))
  ∧ (∀ (agent : Fin 16) (addr : BitVec 24) (data : Word) (tag : Option (Fin 128)) (p : Pair) (s : State),
      let a := addr.toNat / 4 * 4
      s.path.pair = some p → p.agent = agent.val → p.addr = a →
      ∃ t, exec (.lockedWrite agent addr 0xF data tag) s = .next t ∧ t.storeHolds a (wordBytes data) ∧ s.keepsStoreBut t a 4
        ∧ t.ecc a = .clean
        ∧ t = { s with mem := t.mem, flaws := t.flaws, notices := t.notices,
                       path := { s.path with pair := none, answer := some ⟨agent, .done, none⟩ } }
        ∧ (p.verdict = .openArea → t.notices = s.notices)
        ∧ ∀ n i, p.verdict = .accepted n i → let off := i * 1024 + a % 1024
            .screenWrite ⟨n, i, off, off / 64, agent, (s.story n).custody.place⟩ ∈ t.notices)
  ∧ (∀ (agent : Fin 16) (addr : BitVec 24) (be : BitVec 4) (data : Word) (tag : Option (Fin 128)) (p : Pair) (s : State),
      let a := addr.toNat / 4 * 4
      let closed (r : Response) : PathUnit := { s.path with pair := none, answer := some ⟨agent, r, none⟩ }
      s.path.pair = some p → p.agent = agent.val → p.addr = a →
      (be = 0 → exec (.lockedWrite agent addr be data tag) s = .next { s with path := closed .done })
      ∧ (be ≠ 0 → be ≠ 0xF →
        (s.ecc a = .uncorrected → exec (.lockedWrite agent addr be data tag) s
          = .next { s with notices := s.notices ++ [.fault ⟨.store, 2, a, true, true⟩], path := closed .fail })
        ∧ (s.ecc a ≠ .uncorrected → ∃ t, exec (.lockedWrite agent addr be data tag) s = .next t
          ∧ (∀ i, i < 4 → t.byte (a + i) = if be.getLsbD i then (wordBytes data).getD i 0 else s.byte (a + i))
          ∧ s.keepsStoreBut t a 4 ∧ t.ecc a = .clean ∧ (∀ b, b ≠ a → t.ecc b = s.ecc b)
          ∧ t = { s with mem := t.mem, flaws := t.flaws, notices := t.notices, path := closed .done }
          ∧ (p.verdict = .openArea → t.notices
              = s.notices ++ if s.ecc a = .corrected then [.fault ⟨.store, 2, a, true, false⟩] else [])
          ∧ ∀ n i, p.verdict = .accepted n i → let off := i * 1024 + a % 1024
              .screenWrite ⟨n, i, off, off / 64, agent, (s.story n).custody.place⟩ ∈ t.notices)))
  ∧ (∀ (agent : Fin 16) (addr : BitVec 24) (be : BitVec 4) (data : Word) (tag : Option (Fin 128)) (p : Pair) (s : State),
      s.path.pair = some p → p.agent = agent.val → s.path.port = none → s.path.orphan = false →
      let closed : State := { s with path := { s.path with pair := none, port := some .pass } }
      exec (.read agent addr) s = exec (.read agent addr) closed
        ∧ exec (.write agent addr be data tag) s = exec (.write agent addr be data tag) closed
        ∧ exec (.lockedRead agent addr tag) s = exec (.lockedRead agent addr tag) closed
        ∧ (p.addr ≠ addr.toNat / 4 * 4 → exec (.lockedWrite agent addr be data tag) s = exec (.write agent addr be data tag) closed))
  ∧ (∀ (agent : Fin 16) (addr : BitVec 24) (be : BitVec 4) (data : Word) (tag : Option (Fin 128)) (p : Pair) (s : State),
      s.path.pair = some p → p.agent ≠ agent.val →
      let t : State := { s with path := { s.path with answer := some ⟨agent, .retry, none⟩ } }
      exec (.read agent addr) s = .next t ∧ exec (.write agent addr be data tag) s = .next t
        ∧ exec (.lockedRead agent addr tag) s = .next t ∧ exec (.lockedWrite agent addr be data tag) s = .next t)
  ∧ (∀ (p : Pair) (s : State), s.path.pair = some p →
      exec .lockedPairTimeout s = .next (if 2 ≤ p.ticks then { s with path := { s.path with pair := none } } else s))
  ∧ (∀ s : State, slipWaits s → s.page.pickHeld = false → exec .deferredWorkAtPairClose s = .next s)
  ∧ (∀ (k : SlipKind) (c : Instr) (v : Service) (s : State),
      (k, c) ∈ [(.send, .sendSlip), (.take, .takeSlip), (.recall, .recallSlip), (.spike, .spikeSlip), (.bracket, .bracketSlip),
        (.extend, .extendSlip), (.trim, .trimSlip)] →
      ¬ pairOn s (target s v k) → s.slip.service = some v → v.phase = .held k →
      exec .deferredWorkAtPairClose s = exec c { s with slip := { s.slip with service := some { v with phase := .dispatched k } } }
        ∧ ∃ t, exec .deferredWorkAtPairClose s = .next t)
  ∧ (∀ (v : Service) (s : State), let d := byteAt (v.word 1) 0; let n := (v.word 2).toNat
      ¬ pairOn s n → s.slip.service = some v → v.phase = .held .take → d ≤ 15 → (s.position v.position).desk = d →
      (s.position v.position).hand.length < 8 → n ≠ 0 → n ∈ s.basketOf d → (s.story n).custody = .basket d →
      ∃ t, exec .deferredWorkAtPairClose s = .next t
        ∧ t.story n = { s.story n with custody := .held v.position, takeTime := s.clock.tod } ∧ (∀ m, m ≠ n → t.story m = s.story m)
        ∧ t.basketOf d = (s.basketOf d).filter (· ≠ n) ∧ (t.position v.position).hand = (s.position v.position).hand ++ [n]
        ∧ t.notices = s.notices ++ [.basket d, .hand v.position]
        ∧ t = { s with dir := t.dir, desk := { s.desk with baskets := t.desk.baskets }, notices := t.notices, slip := t.slip })
  ∧ (∀ s : State, slipWaits s → s.page.pickHeld = true →
      exec .deferredWorkAtPairClose s = exec .ready { s with
        notices := .ready :: s.notices, page := { s.page with pickHeld := false } })
  ∧ (∀ (k : Nat) (later : List Nat) (s : State), slipWaits s → s.page.pickHeld = true →
      s.active = true → s.sendingPage = none → s.set.state = .ready → s.set.startDue = false → s.set.cancel = none →
      (∀ i, .placeEnd i ∉ s.notices) → (∀ o, .outcome o ∉ s.notices) → s.page.queue = k :: later →
      (∀ x, x ∈ (s.pageAt k).placed → (s.story x.2.story).fit.state = .current ∧ x.2.story ∉ s.page.bracketed
        ∧ noChangeOnWay s.notices x.2.story
        ∧ (x.2.mode = .refuse →
            (tget (fun _ => ({} : HoleResult)) (s.story x.2.story).fit.outcomes (s.pageAt k).edition).kind ≠ .over)) →
      ((∃ x, x ∈ (s.pageAt k).placed ∧ pairOn s x.2.story) → exec .deferredWorkAtPairClose s = .next s)
      ∧ ((∀ x, x ∈ (s.pageAt k).placed → ¬ pairOn s x.2.story) →
        ∃ t, exec .deferredWorkAtPairClose s = .next t ∧ (t.pageAt k).state = .sending ∧ t.set.state = .sending
          ∧ (∀ j, j ≠ k → t.pageAt j = s.pageAt j) ∧ t.page.queue = k :: later.filter (· ≠ k) ∧ t.page.pickHeld = false
          ∧ t.notices = s.notices ++ (s.pageAt k).placed.map (fun x => .lock x.2.story)))

/-- R16: the decision at a free port with no pair open: the pass-through, up to 3 grants in a row while own requests wait, or the highest own
request of Table 1-9, which leaves its requester (the scrub's address stays until its re-read, R11). A failed bit changes the condition of its word
alone (log 4). Bytes taken by the set link's transmitter change nothing here without a TEXT frame (log 32). A transaction is not taken while an own
grant is in progress (log 6). R11: a scrub grant: the address leaves the queue; a CORRECTED word is written back with fresh check bits, and its data
stays; a word found wrong is recorded (for a CORRECTED one: log 34). -/
def Obligations.GrantsAreDecidedAndScrubsRewrite : Prop :=
  ((∀ (w : Bool) (s : State), s.path.pair = none → s.path.port = none →
    let waiting := s.path.scrubQueue ≠ [] ∨ s.set.request ≠ none ∨ s.intake.requests ≠ [] ∨ s.screen.requests ≠ []
      ∨ s.slip.request ≠ none ∨ s.fit.request ≠ none
    let own (g : Grant) : PathUnit := { s.path with port := some g, streak := 0 }
    (w = true → ¬ waiting → exec (.arbiterDecision w ⟨[], 0⟩) s = .next { s with path := { s.path with port := some .pass, streak := 0 } })
    ∧ (w = true → waiting → s.path.streak < 3 → exec (.arbiterDecision w ⟨[], 0⟩) s
        = .next { s with path := { s.path with port := some .pass, streak := s.path.streak + 1 } })
    ∧ (w = false → ¬ waiting → exec (.arbiterDecision w ⟨[], 0⟩) s = .next s)
    ∧ (w = false ∨ s.path.streak = 3 →
        (∀ a q, s.path.scrubQueue = a :: q → exec (.arbiterDecision w ⟨[], 0⟩) s = .next { s with path := own (.scrub a) })
        ∧ (s.path.scrubQueue = [] → ∀ a, s.set.request = some a → exec (.arbiterDecision w ⟨[], 0⟩) s
            = .next { s with path := own (.set a), set := { s.set with request := none } })
        ∧ (s.path.scrubQueue = [] → s.set.request = none → ∀ r q, s.intake.requests = r :: q → exec (.arbiterDecision w ⟨[], 0⟩) s
            = .next { s with path := own (.intake r), intake := { s.intake with requests := q } })
        ∧ (s.path.scrubQueue = [] → s.set.request = none → s.intake.requests = [] → ∀ r q, s.screen.requests = r :: q →
            exec (.arbiterDecision w ⟨[], 0⟩) s = .next { s with path := own (.screen r), screen := { s.screen with requests := q } })
        ∧ (s.path.scrubQueue = [] → s.set.request = none → s.intake.requests = [] → s.screen.requests = [] → ∀ r, s.slip.request = some r →
            exec (.arbiterDecision w ⟨[], 0⟩) s = .next { s with path := own (.slip r), slip := { s.slip with request := none } })
        ∧ (s.path.scrubQueue = [] → s.set.request = none → s.intake.requests = [] → s.screen.requests = [] → s.slip.request = none →
            ∀ a, s.fit.request = some a →
            exec (.arbiterDecision w ⟨[], 0⟩) s = .next { s with path := own (.fit a), fit := { s.fit with request := none } })))
  ∧ (∀ (w : Bool) (x : BitVec 24) (s : State), s.path.port ≠ none → ∃ t, exec (.arbiterDecision w ⟨[x], 0⟩) s = .next t
      ∧ t.ecc (x.toNat / 4 * 4) = (if s.ecc (x.toNat / 4 * 4) = .clean then .corrected else .uncorrected)
      ∧ (∀ a, a ≠ x.toNat / 4 * 4 → t.ecc a = s.ecc a) ∧ t = { s with flaws := t.flaws })
  ∧ ∀ (agent : Fin 16) (addr : BitVec 24) (g : Grant) (s : State), s.path.pair = none → s.path.port = some g → g ≠ .pass →
      exec (.read agent addr) s = .next s)
  ∧ (∀ (w : Bool) (l : List (BitVec 24)) (taken : Nat) (s : State), (∀ n payload, s.set.tx ≠ some (.text n payload false)) →
      exec (.arbiterDecision w ⟨l, taken⟩) s = exec (.arbiterDecision w ⟨l, 0⟩) s)
  ∧ (∀ (a : Nat) (s : State), s.path.port = some (.scrub a) →
    let g : State := { s with path := { s.path with port := none, orphan := false, scrubQueue := s.path.scrubQueue.filter (· ≠ a) } }
    (s.ecc a = .clean → exec .scrub s = .next g)
    ∧ (s.ecc a = .uncorrected → exec .scrub s = .next { g with notices := s.notices ++ [.fault ⟨.store, 3, a, true, true⟩] })
    ∧ (s.ecc a = .corrected → ∃ t, exec .scrub s = .next t ∧ s.keepsStore t ∧ t.ecc a = .clean ∧ (∀ b, b ≠ a → t.ecc b = s.ecc b)
        ∧ t = { g with mem := t.mem, flaws := t.flaws, notices := s.notices ++ [.fault ⟨.store, 3, a, true, false⟩] }))

/-! ### Chapter 3: slips -/

/-- R38, R39: a posting notice appends its slot to its agent's list, unless it is there or in service, and is held during an abandonment; the
choice takes the oldest slot of the first agent from the pointer on. -/
def Obligations.PostedSlotsAreListedAndChosenInTurn : Prop :=
  (∀ (agent slot : Nat) (rest : List Notice) (s : State), s.oldest (fun | .posting _ _ => true | _ => false) (.posting agent slot) rest →
    let g : State := { s with notices := rest }
    let known := slot ∈ s.pendingOf agent ∨ ∃ v, s.slip.service = some v ∧ v.agent = agent ∧ v.slot = slot
    (s.slip.abandon = [] → known → exec .postingNotice s = .next g)
    ∧ (s.slip.abandon = [] → ¬ known → ∃ t, exec .postingNotice s = .next t ∧ t.pendingOf agent = s.pendingOf agent ++ [slot]
        ∧ (∀ b, b ≠ agent → t.pendingOf b = s.pendingOf b)
        ∧ t = { g with slip := { s.slip with pendingLists := t.slip.pendingLists } })
    ∧ (s.slip.abandon ≠ [] → exec .postingNotice s
        = .next { g with slip := { s.slip with heldPosts := s.slip.heldPosts ++ [(agent, slot)] } }))
  ∧ (∀ (i slot : Nat) (later : List Nat) (s : State), s.slip.service = none → s.slip.abandon = [] → s.active = true → i < 16 →
      let agent := (s.slip.nextAgent + i) % 16
      (∀ j, j < i → s.pendingOf ((s.slip.nextAgent + j) % 16) = []) → s.pendingOf agent = slot :: later →
      ∃ t, exec .slipChoice s = .next t ∧ t.pendingOf agent = later ∧ (∀ b, b ≠ agent → t.pendingOf b = s.pendingOf b)
        ∧ t = { s with slip := { s.slip with
            pendingLists := t.slip.pendingLists
            service := some ⟨agent, slot, [], false, .capturing, .nothing⟩
            request := some (.capture (s.path.regions.slipBase * 1024 + agent * 512 + slot * 32))
            nextAgent := (agent + 1) % 16 } })
  ∧ ∀ s : State, s.slip.service ≠ none ∨ s.slip.abandon ≠ [] ∨ s.active = false ∨ (∀ b, b < 16 → s.pendingOf b = []) →
      exec .slipChoice s = .next s

/-- Tables 2-4, 3-4, 4-1, 5-2, 6-3, 8-3 and 9-5, R127, R177: the kinds of each unit, which of them act for a position, and which are privileged. R40,
R41: at the end of a capture grant whose words decode, a word 7 other than POSTED withdraws the slip, while one that does not decode is taken as
POSTED; else the first common check that fails answers it, or it is handed to its unit. An uncorrectable word among words 0 to 6 is answered BADARG with its index. R40: an
uncorrectable word among words 0 to 6 of a slip whose word 7 holds POSTED is answered BADARG, with the index of the first and detail byte 2
= 1; each such word sends a SLIPREAD record. -/
def Obligations.CaptureDecidesOrAnswersASlip : Prop :=
  let table : List (Nat × Nat × SlipKind × Bool × Bool) :=
    [(0, 0x00, .noop, false, false), (0, 0x01, .clock, false, true), (0, 0x02, .edition, false, true), (0, 0x03, .pathstat, false, false),
     (0, 0x04, .faults, false, false), (0, 0x10, .position, false, true), (0, 0x11, .desk, false, true),
     (1, 0x01, .openStory, true, false), (1, 0x02, .extend, true, false), (1, 0x03, .trim, true, false), (1, 0x04, .adopt, false, true),
     (1, 0x05, .storystat, false, false), (1, 0x08, .send, true, false), (1, 0x09, .take, true, false), (1, 0x0A, .recall, true, false),
     (1, 0x0B, .spike, true, false), (1, 0x0C, .bracket, true, false), (1, 0x0D, .basketstat, false, false),
     (2, 0x01, .view, true, false), (2, 0x02, .scroll, true, false), (2, 0x03, .reshow, true, false), (2, 0x04, .linkstat, false, false),
     (3, 0x01, .spec, true, false), (3, 0x02, .unspec, true, false), (3, 0x03, .fitstat, false, false),
     (4, 0x01, .place, true, false), (4, 0x02, .unplace, true, false), (4, 0x03, .copypage, true, false), (4, 0x04, .release, true, false),
     (4, 0x05, .withdraw, true, false), (4, 0x06, .pagestat, false, false), (4, 0x07, .setstat, false, false),
     (5, 0x01, .linehold, false, true), (5, 0x02, .lineresume, false, true), (5, 0x03, .linestat, false, false)]
  (∀ unit code k, kindOf unit code = some k ↔ ∃ forPosition privileged, (unit, code, k, forPosition, privileged) ∈ table)
  ∧ (∀ unit code k forPosition privileged, (unit, code, k, forPosition, privileged) ∈ table →
    k.forPosition = forPosition ∧ k.privilegedKind = privileged)
  ∧
  (∀ (a : Nat) (v : Service) (s : State), s.path.port = some (.slip (.capture a)) → s.path.orphan = false → s.slip.service = some v →
    let g : State := { s with path := { s.path with port := none, orphan := false } }
    let w (i : Nat) : Word := s.wordAt (a + 4 * i)
    let unit := byteAt (w 0) 1 % 16
    let agent := v.agent
    let lost : Bool := s.ecc (a + 28) == .uncorrected
    let g : State := { g with notices := s.notices ++ if lost then [.fault ⟨.store, 4, a + 28, true, true⟩] else [] }
    let taken : Service := { v with
      words := (List.range 7).map w ++ [if lost then 0 else w 7], attention := decide (128 ≤ byteAt (w 0) 1) }
    let answer (code d1 d2 : Nat) : Prop := exec .capture s = .next (g.answered taken 0 0 (result code d1 d2 0))
    (∀ i, i < 7 → s.ecc (a + 4 * i) = .clean) → s.ecc (a + 28) ≠ .corrected →
      if lost = false ∧ w 7 ≠ 1 then exec .capture s = .next { g with slip := { s.slip with service := none } }
      else if 6 ≤ unit then answer 0x11 0 0
      else match kindOf unit (byteAt (w 0) 0) with
        | none => answer 0x12 0 0
        | some k =>
          let tag := byteAt (w 0) 2
          if k.forPosition = true ∧ (128 ≤ tag ∨ (s.position tag).inUse = false) then answer 0x14 0 0
          else if k.forPosition = true ∧ (s.position tag).agent ≠ agent then answer 0x15 0 0
          else if k.privilegedKind = true ∧ s.slip.privMask.getLsbD agent = false then answer 0x16 0 0
          else if k = .recall ∧ (s.position tag).chief = false then answer 0x16 0 0
          else exec .capture s = .next { g with slip := { s.slip with service := some { taken with phase := .dispatched k } } })
  ∧ (∀ (a i : Nat) (v : Service) (s : State), s.path.port = some (.slip (.capture a)) → s.path.orphan = false → s.slip.service = some v →
    i < 7 → s.ecc (a + 4 * i) = .uncorrected → (∀ j, j < i → s.ecc (a + 4 * j) ≠ .uncorrected) →
    s.ecc (a + 28) = .uncorrected ∨ s.wordAt (a + 28) = 1 →
    ∃ t, exec .capture s = .next t
      ∧ t.slip.request = some (.result (s.path.regions.slipBase * 1024 + v.agent * 512 + v.slot * 32) 0 0 (result 0x13 i 1 0))
      ∧ (∃ u, t.slip.service = some u ∧ u.phase = .answered ∧ u.agent = v.agent ∧ u.slot = v.slot
          ∧ u.attention = (if i = 0 then false else decide (128 ≤ byteAt (s.wordAt a) 1)))
      ∧ t.notices = s.notices ++ (List.range 8).flatMap (fun j => match s.ecc (a + 4 * j) with
          | .clean => []
          | .corrected => [.fault ⟨.store, 4, a + 4 * j, true, false⟩]
          | .uncorrected => [.fault ⟨.store, 4, a + 4 * j, true, true⟩])
      ∧ ((∀ j, j < 8 → s.ecc (a + 4 * j) ≠ .corrected) → t.path.scrubQueue = s.path.scrubQueue)
      ∧ t = { s with notices := t.notices, slip := t.slip,
                     path := { s.path with port := none, orphan := false, scrubQueue := t.path.scrubQueue } })

/-- R42, R50: a result write puts words 5, 6 and 7 into the slot, and the slip leaves service with its pulse; a pulse ends; an ABANDONED result
write is followed by the next, or by the pulses and the held posts. -/
def Obligations.ResultsAreWrittenAndPulsed : Prop :=
  (∀ (a : Nat) (w5 w6 w7 : Word) (v : Service) (s : State), s.path.port = some (.slip (.result a w5 w6 w7)) → s.path.orphan = false →
    s.slip.service = some v →
    ∃ t, exec .resultWrite s = .next t ∧ t.storeHolds (a + 20) (wordBytes w5 ++ wordBytes w6 ++ wordBytes w7)
      ∧ s.keepsStoreBut t (a + 20) 12 ∧ t.ecc (a + 20) = .clean ∧ t.ecc (a + 24) = .clean ∧ t.ecc (a + 28) = .clean
      ∧ tget (fun _ => false) t.slip.attention v.agent = (v.attention || tget (fun _ => false) s.slip.attention v.agent)
      ∧ t = { s with mem := t.mem, flaws := t.flaws, path := { s.path with port := none },
                     slip := { s.slip with service := none, attention := t.slip.attention } })
  ∧ (∀ (agent : Fin 16) (s : State), ∃ t, exec (.attentionPulseEnd agent) s = .next t
      ∧ tget (fun _ => false) t.slip.attention agent = false
      ∧ (∀ b, b ≠ agent.val → tget (fun _ => false) t.slip.attention b = tget (fun _ => false) s.slip.attention b)
      ∧ t = { s with slip := { s.slip with attention := t.slip.attention } })
  ∧ ∀ (a : Nat) (head : Nat × Nat) (rest : List (Nat × Nat)) (s : State), s.path.port = some (.slip (.abandoned a)) → s.path.orphan = false →
      s.slip.abandon = head :: rest →
      ∃ t, exec .abandonedResult s = .next t
        ∧ t.storeHolds (a + 20) (wordBytes 0 ++ wordBytes 0 ++ wordBytes (result 0x28 0 0 0)) ∧ s.keepsStoreBut t (a + 20) 12
        ∧ t.slip.abandon = rest
        ∧ (∀ agent slot more, rest = (agent, slot) :: more →
            t.slip.request = some (.abandoned (s.path.regions.slipBase * 1024 + agent * 512 + slot * 32)) ∧ t.slip.affected = s.slip.affected)
        ∧ (rest = [] → t.slip.affected = [] ∧ t.slip.heldPosts = []
            ∧ (∀ b, b ∈ s.slip.affected → tget (fun _ => false) t.slip.attention b = true)
            ∧ ∀ p, p ∈ s.slip.heldPosts → (∀ v, s.slip.service = some v → (v.agent, v.slot) ≠ p) → p.2 ∈ t.pendingOf p.1)
        ∧ t = { s with mem := t.mem, flaws := t.flaws, path := { s.path with port := none }, slip := t.slip }

/-- R47: NOOP. -/
def Obligations.NoopReturnsTheTime : Prop :=
  ∀ (s : State) (v : Service), s.handed .noop v →
    exec .noopSlip s = .next (s.answered v (packNat s.clock.tod) (if s.clock.clockSet then 1 else 0) (result 0x10 0 0 0))

/-- R46: CLOCK, and the ranges it leaves. R48, R147, R148: EDITION's checks (word 1 before word 2: log 61), actions, notice and answer; an OPEN edition closes at the tick
that reaches its deadline, tested as the edition stands when the tick is taken (log 56). -/
def Obligations.ClockAndEditionsAreSet : Prop :=
  (∀ (s : State) (v : Service), s.handed .clock v → let time := (v.word 1).toNat
    (86400 ≤ time → exec .clockSlip s = .next (s.answered v 0 0 (result 0x13 1 0 0)))
    ∧ (time < 86400 → exec .clockSlip s = .next
        ({ s with clock := { s.clock with tod := time, ms := 0, clockSet := true, secondDue := false } }.answered v
          (packNat s.clock.tod) (if s.clock.clockSet then 1 else 0) (result 0x10 0 0 0))))
  ∧ ((∀ (s : State) (v : Service), s.handed .edition v →
    let e := byteAt (v.word 1) 0
    let action := byteAt (v.word 1) 1
    let time := (v.word 2).toNat
    let old := s.editionOf e
    let new : Edition := if action = 0 then ⟨old.isOpen, some time⟩ else if action = 1 then ⟨old.isOpen, none⟩
      else if action = 2 then ⟨true, old.deadline⟩ else ⟨false, old.deadline⟩
    let w6 : Word := match new.deadline with
      | some d => packNat d
      | none => 0xFFFFFFFF
    if e < 1 ∨ 4 < e ∨ 3 < action then exec .editionSlip s = .next (s.answered v 0 0 (result 0x13 1 0 0))
    else if action = 0 ∧ 86400 ≤ time then exec .editionSlip s = .next (s.answered v 0 0 (result 0x13 2 0 0))
    else ∃ t : State, exec .editionSlip s = .next (t.answered v (if new.isOpen then 1 else 0) w6 (result 0x10 0 0 0)) ∧ t.editionOf e = new
      ∧ (∀ f, f ≠ e → t.editionOf f = s.editionOf f)
      ∧ t.notices = (if new = old then s.notices else s.notices ++ [.edition e (new.isOpen != old.isOpen)])
      ∧ t = { s with page := { s.page with editions := t.page.editions }, notices := t.notices })
  ∧ ∀ (e time : Nat) (s : State), (e, time) ∈ s.clock.deadlineTicks → (∀ u, u ∈ s.clock.deadlineTicks → u.1 = e → u.2 = time) →
      ∃ t, exec (.editionDeadline e) s = .next t
        ∧ (t.editionOf e).isOpen = ((s.editionOf e).isOpen && (s.editionOf e).deadline != some time)
        ∧ (t.editionOf e).deadline = (s.editionOf e).deadline ∧ (∀ f, f ≠ e → t.editionOf f = s.editionOf f)
        ∧ t.notices = (if t.editionOf e = s.editionOf e then s.notices else s.notices ++ [.edition e true])
        ∧ t.page.pages = s.page.pages ∧ t.page.queue = s.page.queue
        ∧ (∀ u, u ∈ t.clock.deadlineTicks ↔ u ∈ s.clock.deadlineTicks ∧ u.1 ≠ e)
        ∧ t = { s with clock := { s.clock with deadlineTicks := t.clock.deadlineTicks }, page := t.page, notices := t.notices })

/-- R14: PATHSTAT reads and clears an agent's refusal record, its BADARG tested before its NOPRIV (the model's choice: log 61); a refusal after it
leaves count 1. -/
def Obligations.PathstatReadsAndClearsARecord : Prop :=
  (∀ (s : State) (v : Service), s.handed .pathstat v →
    let agent := (v.word 1).toNat
    let r := s.refusalOf agent
    let reason : Word := match r.reason with
      | .none => 0 | .beyond => 1 | .ringowner => 2 | .unowned => 3 | .notholder => 4 | .wrongagent => 5
    if 15 < agent then exec .pathstatSlip s = .next (s.answered v 0 0 (result 0x13 1 0 0))
    else if agent ≠ v.agent ∧ s.slip.privMask.getLsbD v.agent = false then exec .pathstatSlip s = .next (s.answered v 0 0 (result 0x16 0 0 0))
    else ∃ t : State, exec .pathstatSlip s = .next (t.answered v (packNat r.addr) reason (result 0x10 r.count 0 0))
      ∧ t.refusalOf agent = ⟨0, 0, .none⟩ ∧ (∀ b, b ≠ agent → t.refusalOf b = s.refusalOf b)
      ∧ t = { s with path := { s.path with refusals := t.path.refusals } })
  ∧ ∀ (agent a : Nat) (r : Reason) (s : State), s.refusalOf agent = ⟨0, 0, .none⟩ → (s.refuseTxn agent a r).refusalOf agent = ⟨1, a, r⟩

/-! ### Chapter 2: stories, blocks and the directory -/

/-- R28, R29: POSITION writes an entry after its checks and has its rows marked, cleared or unmarked, each clean row that is marked sending a
dirty notice (R101, log 24); DESK writes a name and MAKEUP, and a name change marks the basket rows of the desk's positions (the order of its two
BADARG tests: log 44). -/
def Obligations.PositionAndDeskWriteTheirEntries : Prop :=
  (∀ (s : State) (v : Service), s.handed .position v →
    let p := (v.word 1).toNat
    let old := s.position p
    let new : Position := ⟨byteAt (v.word 2) 0 == 1, byteAt (v.word 2) 1, byteAt (v.word 2) 2, byteAt (v.word 3) 0, byteAt (v.word 3) 1,
      byteAt (v.word 2) 3 == 1, old.hand⟩
    let badarg (word : Nat) : Prop := exec .positionSlip s = .next (s.answered v 0 0 (result 0x13 word 0 0))
    if 127 < p then badarg 1
    else if 1 < byteAt (v.word 2) 0 ∨ 15 < new.desk ∨ 15 < new.agent ∨ 1 < byteAt (v.word 2) 3 then badarg 2
    else if 15 < new.link ∨ 7 < new.drop then badarg 3
    else if new.inUse = true ∧ ∃ e, e ∈ s.dir.positions ∧ e.1 ≠ p ∧ e.2.inUse = true ∧ e.2.link = new.link ∧ e.2.drop = new.drop then badarg 3
    else if old.hand ≠ [] ∧ (new.inUse = false ∨ new.agent ≠ old.agent) then exec .positionSlip s = .next (s.answered v 0 0 (result 0x19 0 0 0))
    else ∃ t : State, exec .positionSlip s = .next (t.answered v (packNat old.hand.length) 0 (result 0x10 0 0 0))
      ∧ t.position p = new ∧ (∀ q, q ≠ p → t.position q = s.position q ∧ t.viewOf q = s.viewOf q ∧ t.dirtyMap q = s.dirtyMap q)
      ∧ (new.inUse = true → old.inUse = false ∨ old.link ≠ new.link ∨ old.drop ≠ new.drop → t.dirtyMap p = 0xFFFFFF#24
          ∧ (∀ m, m ∈ t.notices → m ∈ s.notices ∨ m = .dirty new.link new.drop)
          ∧ ((∃ r, r < 24 ∧ (s.dirtyMap p).getLsbD r = false) → .dirty new.link new.drop ∈ t.notices)
          ∧ (s.dirtyMap p = 0xFFFFFF#24 → t.notices = s.notices))
      ∧ (new.inUse = true → old.inUse = true → old.link = new.link → old.drop = new.drop →
          t.dirtyMap p = (if old.desk = new.desk then s.dirtyMap p else s.dirtyMap p ||| 0x800000#24))
      ∧ (new.inUse = false → old.inUse = true → t.dirtyMap p = 0 ∧ t.viewOf p = ⟨none, 0, 0⟩)
      ∧ t = { s with dir := { s.dir with positions := t.dir.positions }, screen := t.screen, notices := t.notices })
  ∧ ∀ (s : State) (v : Service), s.handed .desk v →
    let d := (v.word 1).toNat
    let name := ((wordBytes (v.word 2) ++ wordBytes (v.word 3)).take 6).map fun b => if 0x20 ≤ b.toNat ∧ b.toNat ≤ 0x7E then b else 0x20
    if 15 < d then exec .deskSlip s = .next (s.answered v 0 0 (result 0x13 1 0 0))
    else if 1 < byteAt (v.word 4) 0 then exec .deskSlip s = .next (s.answered v 0 0 (result 0x13 4 0 0))
    else 5 ≤ v.words.length → ∃ t : State, exec .deskSlip s = .next (t.answered v 0 0 (result 0x10 0 0 0))
      ∧ t.deskEntry d = ⟨name, byteAt (v.word 4) 0 == 1⟩ ∧ (∀ e, e ≠ d → t.deskEntry e = s.deskEntry e)
      ∧ (∀ p, (s.position p).inUse = true → (s.position p).desk = d → (s.deskEntry d).name ≠ name → (t.dirtyMap p).getLsbD 23 = true)
      ∧ ((s.deskEntry d).name = name → t.screen = s.screen ∧ t.notices = s.notices)
      ∧ t = { s with dir := { s.dir with desks := t.dir.desks }, screen := t.screen, notices := t.notices }

/-- R21, R22, R30: OPEN makes a story of the lowest FREE entry and the lowest free block in the tagged position's hand, and its fill begins.
R21, R22, R31: EXTEND's tests in order; the lowest free blocks join the chain as filling, and the fill of the first begins. With a locked
pair open on the story the slip is held (R8, log 15). -/
def Obligations.OpenAndExtendTakeBlocks : Prop :=
  (∀ (s : State) (v : Service), s.handed .openStory v →
    let p := v.position
    let fails (code : Nat) : Prop := exec .openSlip s = .next (s.answered v 0 0 (result code 0 0 0))
    ((∀ n, 1 ≤ n → n ≤ 2047 → (s.story n).custody ≠ .free) → fails 0x1A)
    ∧ (8 ≤ (s.position p).hand.length → fails 0x1A)
    ∧ ∀ n, 1 ≤ n → n ≤ 2047 → (s.story n).custody = .free → (∀ m, 1 ≤ m → m < n → (s.story m).custody ≠ .free) →
      (s.position p).hand.length < 8 →
      (s.freeSet = [] → fails 0x1B)
      ∧ ∀ b later, s.freeSet = b :: later → ∃ t, exec .openSlip s = .next t
        ∧ t.story n = { custody := .held p, slug := makeSlug (v.bytesFrom 1 3), chain := [b], filling := some 0,
                        entryTime := s.clock.tod, takeTime := s.clock.tod }
        ∧ (∀ m, m ≠ n → t.story m = s.story m) ∧ t.blockEntry b = ⟨n, 0⟩ ∧ (∀ c, c ≠ b → t.blockEntry c = s.blockEntry c)
        ∧ (t.position p).hand = (s.position p).hand ++ [n] ∧ (∀ q, q ≠ p → t.position q = s.position q)
        ∧ t.slip = { s.slip with
            service := some { v with phase := .filling n [b] 0, undo := .freeStory n }
            request := some (.fill (b * 1024)) }
        ∧ t = { s with dir := t.dir, slip := t.slip, notices := s.notices ++ [.hand p] })
  ∧ (∀ (s : State) (v : Service), s.handed .extend v →
    let n := (v.word 1).toNat
    let k := (v.word 2).toNat
    let old := s.story n
    let blocks := s.freeSet.take k
    let fails (code d1 : Nat) : Prop := exec .extendSlip s = .next (s.answered v 0 0 (result code d1 0 0))
    if s.pairStory = some n then exec .extendSlip s
      = .next { s with slip := { s.slip with service := some { v with phase := .held .extend } } }
    else if n = 0 ∨ 2047 < n ∨ old.custody = .free then fails 0x17 0
    else if old.custody ≠ .held v.position then fails 0x18 0
    else if k < 1 ∨ 8 < k then fails 0x13 2
    else if s.locked n = true then fails 0x1D 0
    else if 64 < old.chain.length + k then fails 0x1C 0
    else if s.freeSet.length < k then fails 0x1B 0
    else ∃ t, exec .extendSlip s = .next t
      ∧ t.story n = { old with chain := old.chain ++ blocks, filling := some (old.filling.getD old.chain.length) }
      ∧ (∀ m, m ≠ n → t.story m = s.story m)
      ∧ (∀ i, i < k → t.blockEntry (blocks.getD i 0) = ⟨n, old.chain.length + i⟩) ∧ (∀ c, c ∉ blocks → t.blockEntry c = s.blockEntry c)
      ∧ t.dir.positions = s.dir.positions
      ∧ t.slip = { s.slip with
          service := some { v with phase := .filling n blocks 0, undo := .shorten n old.chain.length false }
          request := some (.fill (blocks.headD 0 * 1024)) }
      ∧ t = { s with dir := t.dir, slip := t.slip })

/-- R22, R30, R31: a fill grant writes 64 fill bytes; the next line is asked for, or the filling field goes, the length notices go out and
the OPEN or EXTEND is answered. R32: TRIM's tests in order; the blocks from index k on are freed, with the length notices and, for a placed
story, the Page Unit's. With a locked pair open on the story the slip is held (R8, log 15). -/
def Obligations.FillGrantsAndTrimSetTheLength : Prop :=
  (∀ (a n k : Nat) (blocks : List Nat) (v : Service) (s : State), s.path.port = some (.slip (.fill a)) → s.path.orphan = false →
    s.slip.service = some v → v.phase = .filling n blocks k →
    ∃ t, exec .slipFillGrant s = .next t ∧ (∀ i, i < 64 → t.byte (a + i) = 0) ∧ s.keepsStoreBut t a 64
      ∧ (∀ i, i < 16 → t.ecc (a + 4 * i) = .clean)
      ∧ (k + 1 < 16 * blocks.length → t = { s with
          mem := t.mem, flaws := t.flaws, path := { s.path with port := none }
          slip := { s.slip with
            service := some { v with phase := .filling n blocks (k + 1) }
            request := some (.fill (blocks.getD ((k + 1) / 16) 0 * 1024 + (k + 1) % 16 * 64)) } })
      ∧ (16 * blocks.length ≤ k + 1 → t.story n = { s.story n with filling := none } ∧ (∀ m, m ≠ n → t.story m = s.story m)
          ∧ t.notices = s.notices ++ [.fitLength n (s.story n).chain.length, .screenLength n (s.story n).chain.length]
          ∧ (∀ m, v.undo = .freeStory m → t.slip.request = some (.result (s.path.regions.slipBase * 1024 + v.agent * 512 + v.slot * 32)
              (packNat n) (packNat (blocks.headD 0)) (result 0x10 0 0 0)))
          ∧ (∀ m len noticed, v.undo = .shorten m len noticed →
              t.slip.request = some (.result (s.path.regions.slipBase * 1024 + v.agent * 512 + v.slot * 32)
                (packNat (blocks.headD 0)) (packNat (s.story n).chain.length) (result 0x10 0 0 0)))
          ∧ t = { s with mem := t.mem, flaws := t.flaws, path := { s.path with port := none }, dir := t.dir, notices := t.notices,
                         slip := t.slip }))
  ∧ (∀ (s : State) (v : Service), s.handed .trim v →
    let n := (v.word 1).toNat
    let k := (v.word 2).toNat
    let old := s.story n
    let fails (code d1 : Nat) : Prop := exec .trimSlip s = .next (s.answered v 0 0 (result code d1 0 0))
    if s.pairStory = some n then exec .trimSlip s = .next { s with slip := { s.slip with service := some { v with phase := .held .trim } } }
    else if n = 0 ∨ 2047 < n ∨ old.custody = .free then fails 0x17 0
    else if old.custody ≠ .held v.position then fails 0x18 0
    else if k < 1 ∨ 64 < k then fails 0x13 2
    else if s.locked n = true then fails 0x1D 0
    else if old.chain.length ≤ k then exec .trimSlip s = .next (s.answered v (packNat old.chain.length) 0 (result 0x10 0 0 0))
    else ∃ t : State, exec .trimSlip s = .next (t.answered v (packNat k) (packNat (old.chain.length - k)) (result 0x10 0 0 0))
      ∧ (t.story n).chain = old.chain.take k ∧ (t.story n).custody = old.custody ∧ (t.story n).bracketRef = old.bracketRef
      ∧ (∀ m, m ≠ n → t.story m = s.story m)
      ∧ (∀ b, b ∈ old.chain.drop k → t.blockEntry b = ⟨0, 0⟩) ∧ (∀ b, b ∉ old.chain.drop k → t.blockEntry b = s.blockEntry b)
      ∧ t.notices = s.notices ++ [.fitLength n (t.story n).filled, .screenLength n (t.story n).filled]
          ++ (if old.placements = [] then [] else [.pageLength n (t.story n).filled])
      ∧ t = { s with dir := t.dir, notices := t.notices } ∧ t.dir.positions = s.dir.positions)

/-- R33, R34: ADOPT's tests and its list reads; the list is decided in index order (a word that fails for several causes: log 45), and a list that
passes becomes a story. -/
def Obligations.AdoptMakesAStoryOfListedBlocks : Prop :=
  (∀ (s : State) (v : Service), s.handed .adopt v →
    let a := (v.word 1).toNat
    let count := byteAt (v.word 2) 0
    let kind := byteAt (v.word 2) 1
    let target := byteAt (v.word 2) 2
    if count < 1 ∨ 64 < count ∨ 1 < kind ∨ (kind = 0 ∧ 127 < target) ∨ (kind = 1 ∧ 15 < target) ∨ 2 < byteAt (v.word 2) 3 then
      exec .adoptSlip s = .next (s.answered v 0 0 (result 0x13 2 0 0))
    else if a % 4 ≠ 0 ∨ ∃ i, i < count ∧ s.region (a + 4 * i) ≠ .openArea then exec .adoptSlip s = .next (s.answered v 0 0 (result 0x13 1 0 0))
    else if kind = 0 ∧ (s.position target).inUse = false then exec .adoptSlip s = .next (s.answered v 0 0 (result 0x14 0 0 0))
    else exec .adoptSlip s = .next { s with slip := { s.slip with
      service := some { v with phase := .listing [] }, request := some (.listRead a (min 16 count)) } })
  ∧ ∀ (a n : Nat) (got : List (Option Word)) (v : Service) (s : State), s.path.port = some (.slip (.listRead a n)) → s.path.orphan = false →
    s.slip.service = some v → v.phase = .listing got → (∀ i, i < n → s.ecc (a + 4 * i) = .clean) →
    let g : State := { s with path := { s.path with port := none } }
    let words := got ++ (List.range n).map fun i => some (s.wordAt (a + 4 * i))
    let blocks := words.map fun w => (Option.getD w 0).toNat
    let count := byteAt (v.word 2) 0
    let cause (i : Nat) : Nat := match words.getD i none with
      | none => 1
      | some w =>
        if 65536 ≤ w.toNat then 2
        else if w.toNat < s.path.regions.copyFirst ∨ s.path.regions.copyFirst + s.path.regions.copyCount ≤ w.toNat then 3
        else if w.toNat ∈ blocks.take i then 4
        else if (s.blockEntry w.toNat).owner ≠ 0 then 5
        else 0
    (words.length < count → exec .adoptListRead s = .next { g with slip := { s.slip with
      service := some { v with phase := .listing words }, request := some (.listRead (a + 4 * n) (min 16 (count - words.length))) } })
    ∧ (count ≤ words.length →
        (∀ i, i < words.length → cause i ≠ 0 → (∀ j, j < i → cause j = 0) →
          exec .adoptListRead s = .next (g.answered v 0 0 (result 0x13 i (cause i) 0)))
        ∧ ((∀ i, i < words.length → cause i = 0) → (∀ m, 1 ≤ m → m ≤ 2047 → (s.story m).custody ≠ .free) →
            exec .adoptListRead s = .next (g.answered v 0 0 (result 0x1A 0 0 0)))
        ∧ ((∀ i, i < words.length → cause i = 0) → ∀ m, 1 ≤ m → m ≤ 2047 → (s.story m).custody = .free →
            (∀ l, 1 ≤ l → l < m → (s.story l).custody ≠ .free) →
            (byteAt (v.word 2) 1 ≠ 1 → 8 ≤ (s.position (byteAt (v.word 2) 2)).hand.length →
              exec .adoptListRead s = .next (g.answered v 0 0 (result 0x1A 0 0 0)))
            ∧ (byteAt (v.word 2) 1 ≠ 1 → (s.position (byteAt (v.word 2) 2)).hand.length < 8 → ∃ t : State,
              exec .adoptListRead s
                = .next (t.answered { v with undo := .freeStory m } (packNat m) (packNat words.length) (result 0x10 0 0 0))
              ∧ t.story m = { custody := .held (byteAt (v.word 2) 2), slug := makeSlug (v.bytesFrom 3 3), cls := classOf (byteAt (v.word 2) 3),
                              chain := blocks, entryTime := s.clock.tod, takeTime := s.clock.tod }
              ∧ (∀ l, l ≠ m → t.story l = s.story l) ∧ (∀ i, i < words.length → t.blockEntry (blocks.getD i 0) = ⟨m, i⟩)
              ∧ (t.position (byteAt (v.word 2) 2)).hand = (s.position (byteAt (v.word 2) 2)).hand ++ [m]
              ∧ t = { g with dir := t.dir, notices := s.notices ++ [.hand (byteAt (v.word 2) 2)] })
            ∧ (byteAt (v.word 2) 1 = 1 → ∃ t : State,
              exec .adoptListRead s
                = .next (t.answered { v with undo := .freeStory m } (packNat m) (packNat words.length) (result 0x10 0 0 0))
              ∧ (t.story m).custody = .basket (byteAt (v.word 2) 2) ∧ (t.story m).chain = blocks ∧ m ∈ t.basketOf (byteAt (v.word 2) 2)
              ∧ t = { g with dir := t.dir, desk := t.desk, notices := s.notices ++ [.basket (byteAt (v.word 2) 2)] })))

/-- R35: STORYSTAT. -/
def Obligations.StorystatReadsAStory : Prop :=
  ∀ (s : State) (v : Service), s.handed .storystat v →
    let n := (v.word 1).toNat
    let st := s.story n
    let state := match st.custody with
      | .free => 0 | .intake _ => 1 | .basket _ => 2 | .held _ => 3
    let place := match st.custody with
      | .free => 0 | .intake k => k | .basket d => d | .held p => p
    let class_ := match st.cls with
      | .flash => 0 | .urgent => 1 | .routine => 2
    let fit := match st.fit.state with
      | .none => 0 | .queued => 1 | .counting => 2 | .bracketed => 3 | .current => 4 | .error => 5
    let last := match st.lastBracket with
      | .none => 0 | .full => 1 | .time => 2 | .broken => 3
    let flags := (if st.truncated then 1 else 0) + (if st.gapped then 2 else 0) + (if s.locked n then 4 else 0)
      + if st.bracketRef = none then 0 else 8
    if n = 0 ∨ 2047 < n then exec .storystatSlip s = .next (s.answered v 0 0 (result 0x13 1 0 0))
    else if st.custody = .free then exec .storystatSlip s = .next (s.answered v 0 0 (result 0x10 0 0 0))
    else exec .storystatSlip s = .next (s.answered v
      (packBytes st.chain.length (st.chain.length - st.filled) flags fit)
      (packBytes last st.placements.length (st.fit.lines % 256) (st.fit.lines / 256)) (result 0x10 state place class_))

/-! ### Chapter 4: desks, baskets and custody -/

/-- R52, R55, R56: SEND's tests in order; the story moves into the basket by its new class, and an open bracket on it ends BROKEN. R55, R57:
TAKE's tests in order; the head of the basket, or the named story, moves to the tail of the hand. -/
def Obligations.SendAndTakeMoveStories : Prop :=
  (∀ (s : State) (v : Service), s.handed .send v →
    let n := (v.word 1).toNat
    let d := byteAt (v.word 2) 0
    let c := byteAt (v.word 2) 1
    let st := s.story n
    let rank (k : Nat) : Nat := if k = n then c else (s.story k).cls.number
    let fails (code d1 : Nat) : Prop := exec .sendSlip s = .next (s.answered v 0 0 (result code d1 0 0))
    if s.pairStory = some n then exec .sendSlip s = .next { s with slip := { s.slip with service := some { v with phase := .held .send } } }
    else if n = 0 ∨ 2047 < n ∨ st.custody = .free then fails 0x17 0
    else if st.custody ≠ .held v.position then fails 0x18 0
    else if 15 < d ∨ 2 < c then fails 0x13 2
    else ∃ t : State, exec .sendSlip s
        = .next (t.answered v (packNat ((t.basketOf d).idxOf n)) (packNat (t.basketOf d).length) (result 0x10 0 0 0))
      ∧ (t.story n).custody = .basket d ∧ (t.story n).cls.number = c ∧ (t.story n).entryTime = s.clock.tod
      ∧ (t.story n).placements = st.placements ∧ (t.story n).fit = st.fit ∧ (t.story n).chain = st.chain
      ∧ t.basketOf d = (s.basketOf d).takeWhile (fun k => rank k ≤ c) ++ n :: (s.basketOf d).dropWhile (fun k => rank k ≤ c)
      ∧ (∀ e, e ≠ d → t.basketOf e = s.basketOf e)
      ∧ (t.position v.position).hand = (s.position v.position).hand.filter (· ≠ n)
      ∧ (st.bracketRef = none → t.desk.brackets = s.desk.brackets ∧ t.notices = s.notices ++ [.hand v.position, .basket d])
      ∧ (∀ k, st.bracketRef = some k → (s.bracketAt k).story = n → (t.bracketAt k).inUse = false ∧ (t.story n).lastBracket = .broken
          ∧ (t.story n).bracketRef = none ∧ t.notices = s.notices
            ++ [.screenEnding n .broken, .fitEnding n .broken, .pageEnding n .broken, .hand v.position, .basket d])
      ∧ t = { s with dir := t.dir, desk := t.desk, notices := t.notices })
  ∧ (∀ (s : State) (v : Service), s.handed .take v →
    let d := byteAt (v.word 1) 0
    let p := v.position
    let named := (v.word 2).toNat
    let n := if named = 0 then (s.basketOf d).headD 0 else named
    let st := s.story n
    let fails (code d1 : Nat) : Prop := exec .takeSlip s = .next (s.answered v 0 0 (result code d1 0 0))
    if s.pairStory = some n then exec .takeSlip s = .next { s with slip := { s.slip with service := some { v with phase := .held .take } } }
    else if 15 < d then fails 0x13 1
    else if (s.position p).desk ≠ d then fails 0x16 0
    else if 8 ≤ (s.position p).hand.length then fails 0x1A 0
    else if named = 0 ∧ s.basketOf d = [] then fails 0x20 0
    else if n ∉ s.basketOf d then fails 0x17 0
    else st.custody = .basket d → ∃ t : State, exec .takeSlip s
        = .next (t.answered v (packNat n) (packNat (t.basketOf d).length) (result 0x10 st.cls.number 0 0))
      ∧ t.story n = { st with custody := .held p, takeTime := s.clock.tod } ∧ (∀ m, m ≠ n → t.story m = s.story m)
      ∧ t.basketOf d = (s.basketOf d).filter (· ≠ n) ∧ (∀ e, e ≠ d → t.basketOf e = s.basketOf e)
      ∧ (t.position p).hand = (s.position p).hand ++ [n] ∧ (∀ q, q ≠ p → t.position q = s.position q)
      ∧ t.desk.brackets = s.desk.brackets
      ∧ t = { s with dir := t.dir, desk := t.desk, notices := s.notices ++ [.basket d, .hand p] })

/-- R55, R58, R59: RECALL's tests in order, the recall guard among them; the story moves into the chief's hand or a basket. -/
def Obligations.RecallMovesAStory : Prop :=
  ∀ (s : State) (v : Service), s.handed .recall v →
    let n := (v.word 1).toNat
    let kind := byteAt (v.word 2) 0
    let desk := byteAt (v.word 2) 1
    let p := v.position
    let st := s.story n
    let age := if st.takeTime ≤ s.clock.tod then s.clock.tod - st.takeTime else s.clock.tod + 86400 - st.takeTime
    let fails (code d1 : Nat) : Prop := exec .recallSlip s = .next (s.answered v 0 0 (result code d1 0 0))
    if s.pairStory = some n then exec .recallSlip s = .next { s with slip := { s.slip with service := some { v with phase := .held .recall } } }
    else if n = 0 ∨ 2047 < n ∨ st.custody = .free then fails 0x17 0
    else if 1 < kind ∨ (kind = 1 ∧ 15 < desk) then fails 0x13 2
    else if st.custody.number = 1 then fails 0x19 0
    else if (kind = 0 ∧ st.custody = .held p) ∨ (kind = 1 ∧ st.custody = .basket desk) then fails 0x22 0
    else
      (∀ q, st.custody = .held q → q ≠ p → age < s.desk.recallGuard →
        exec .recallSlip s = .next (s.answered v (packNat (s.desk.recallGuard - age)) (packNat q) (result 0x1F 0 0 0)))
      ∧ ((∀ q, st.custody = .held q → q = p ∨ s.desk.recallGuard ≤ age) →
        (kind = 0 → 8 ≤ (s.position p).hand.length → fails 0x1A 0)
        ∧ (kind = 1 ∨ (s.position p).hand.length < 8 → ∃ (t : State) (w5 w6 : Word),
            exec .recallSlip s = .next (t.answered v w5 w6 (result 0x10 0 0 0))
            ∧ (∀ q, st.custody = .held q → w5 = packBytes 0 q 0 0 ∧ w6 = packNat age
                ∧ (t.position q).hand = (s.position q).hand.filter (· ≠ n) ∧ .hand q ∈ t.notices)
            ∧ (∀ d, st.custody = .basket d → w5 = packBytes 1 d 0 0 ∧ w6 = 0 ∧ .basket d ∈ t.notices
                ∧ (d ≠ desk ∨ kind = 0 → t.basketOf d = (s.basketOf d).filter (· ≠ n)))
            ∧ (kind = 0 → (t.story n).custody = .held p ∧ (t.story n).takeTime = s.clock.tod
                ∧ (t.position p).hand = (s.position p).hand ++ [n])
            ∧ (kind = 1 → (t.story n).custody = .basket desk ∧ (t.story n).entryTime = s.clock.tod ∧ n ∈ t.basketOf desk
                ∧ .basket desk ∈ t.notices)
            ∧ (t.story n).placements = st.placements ∧ (t.story n).fit = st.fit ∧ (t.story n).cls = st.cls
            ∧ (∀ k, st.bracketRef = some k → (t.bracketAt k).inUse = false ∧ ((s.bracketAt k).story = n → (t.story n).bracketRef = none
                ∧ (t.story n).lastBracket = .broken))
            ∧ t = { s with dir := t.dir, desk := t.desk, notices := t.notices }))

/-- R23, R55, R61, R62: SPIKE's tests in order; the story is cleared from the units that refer to it and freed, and the store keeps its bytes. -/
def Obligations.SpikeFreesAStory : Prop :=
  ∀ (s : State) (v : Service), s.handed .spike v →
    let n := (v.word 1).toNat
    let st := s.story n
    let fails (code : Nat) : Prop := exec .spikeSlip s = .next (s.answered v 0 0 (result code 0 0 0))
    if s.pairStory = some n then exec .spikeSlip s = .next { s with slip := { s.slip with service := some { v with phase := .held .spike } } }
    else if n = 0 ∨ 2047 < n ∨ st.custody = .free then fails 0x17
    else if st.custody.number = 1 then fails 0x19
    else if st.custody.number = 3 ∧ st.custody.place ≠ v.position then fails 0x18
    else if st.custody.number = 2 ∧ (s.position v.position).chief = false then fails 0x16
    else if st.placements ≠ [] then fails 0x1E
    else ∃ t : State, exec .spikeSlip s = .next (t.answered v (packNat st.chain.length) (packNat t.freeSet.length) (result 0x10 0 0 0))
      ∧ t.story n = {} ∧ (st.bracketRef = none → ∀ m, m ≠ n → t.story m = s.story m)
      ∧ (∀ b, b ∈ st.chain → t.blockEntry b = ⟨0, 0⟩) ∧ (∀ b, b ∉ st.chain → t.blockEntry b = s.blockEntry b)
      ∧ (∀ p, (t.viewOf p).story ≠ some n) ∧ n ∉ t.fit.queue ∧ (∀ c, t.fit.count = some c → c.story ≠ n)
      ∧ n ∉ t.fit.bracketed ∧ n ∉ t.screen.bracketed ∧ n ∉ t.page.bracketed
      ∧ (∀ q, st.custody = .held q → (t.position q).hand = (s.position q).hand.filter (· ≠ n) ∧ .hand q ∈ t.notices)
      ∧ (∀ d, st.custody = .basket d → t.basketOf d = (s.basketOf d).filter (· ≠ n) ∧ .basket d ∈ t.notices)
      ∧ (∀ k, st.bracketRef = some k → (t.bracketAt k).inUse = false)
      ∧ t = { s with dir := t.dir, desk := t.desk, fit := t.fit, screen := t.screen, notices := t.notices,
                     page := { s.page with bracketed := t.page.bracketed }, path := { s.path with orphan := t.path.orphan } }

/-- R65 to R71: BRACKET's tests in order and its opening; a counted write; the tick that brings a bracket's time left to 0, taken at
the Desk Unit, ends it TIME (log 12). -/
def Obligations.BracketsOpenCountAndEnd : Prop :=
  (∀ (s : State) (v : Service), s.handed .bracket v →
    let n := (v.word 1).toNat
    let st := s.story n
    let fails (code : Nat) (w5 w6 : Word) : Prop := exec .bracketSlip s = .next (s.answered v w5 w6 (result code 0 0 0))
    if s.pairStory = some n then exec .bracketSlip s = .next { s with slip := { s.slip with service := some { v with phase := .held .bracket } } }
    else if n = 0 ∨ 2047 < n ∨ st.custody = .free then fails 0x17 0 0
    else if st.custody ≠ .held v.position then fails 0x18 0 0
    else
      (∀ k, st.bracketRef = some k → fails 0x22 (packNat k) (packNat (s.bracketAt k).count))
      ∧ (st.bracketRef = none → (∀ k, k < 8 → (s.bracketAt k).inUse = true) → fails 0x21 0 0)
      ∧ (st.bracketRef = none → ∀ k, k < 8 → (s.bracketAt k).inUse = false → (∀ j, j < k → (s.bracketAt j).inUse = true) →
          let count := max 4 (min 64 (v.word 2).toNat)
          ∃ t : State, exec .bracketSlip s = .next (t.answered v (packNat k) (packNat count) (result 0x10 0 0 0))
            ∧ t.bracketAt k = ⟨true, n, v.position, count, s.desk.bracketLimit⟩ ∧ (∀ j, j ≠ k → t.bracketAt j = s.bracketAt j)
            ∧ t.story n = { st with bracketRef := some k } ∧ (∀ m, m ≠ n → t.story m = s.story m)
            ∧ t.notices = s.notices ++ [.screenOpening n, .fitOpening n, .pageOpening n]
            ∧ t = { s with dir := t.dir, desk := { s.desk with brackets := t.desk.brackets }, notices := t.notices }))
  ∧ (∀ (w : WriteNote) (rest : List Notice) (s : State), s.oldest (fun | .deskWrite _ => true | _ => false) (.deskWrite w) rest →
      let g : State := { s with notices := rest }
      ((s.story w.story).bracketRef = none → exec .deskWriteNotice s = .next g)
      ∧ ∀ k, (s.story w.story).bracketRef = some k → ∃ t, exec .deskWriteNotice s = .next t
        ∧ (∀ j, j ≠ k → t.bracketAt j = s.bracketAt j)
        ∧ (1 < (s.bracketAt k).count → t.bracketAt k = { s.bracketAt k with count := (s.bracketAt k).count - 1 }
            ∧ t = { g with desk := { s.desk with brackets := t.desk.brackets } })
        ∧ ((s.bracketAt k).count = 1 → (s.bracketAt k).story = w.story → (t.bracketAt k).inUse = false
            ∧ t.story w.story = { s.story w.story with bracketRef := none, lastBracket := .full }
            ∧ t = { g with
                dir := t.dir, desk := { s.desk with brackets := t.desk.brackets }
                notices := rest ++ [.screenEnding w.story .full, .fitEnding w.story .full, .pageEnding w.story .full] }))
  ∧ ∀ (k : Fin 8) (s : State), let b := s.bracketAt k
      (b.inUse = false ∨ 1 < b.timeLeft → exec (.bracketTimeExpiry k) s = .next s)
      ∧ (b.inUse = true → b.timeLeft ≤ 1 → ∃ t, exec (.bracketTimeExpiry k) s = .next t ∧ (t.bracketAt k).inUse = false
        ∧ (∀ j, j ≠ k.val → t.bracketAt j = s.bracketAt j)
        ∧ t.story b.story = { s.story b.story with bracketRef := none, lastBracket := .time }
        ∧ (∀ m, m ≠ b.story → t.story m = s.story m)
        ∧ t = { s with
            dir := t.dir, desk := { s.desk with brackets := t.desk.brackets }
            notices := s.notices ++ [.screenEnding b.story .time, .fitEnding b.story .time, .pageEnding b.story .time] })

/-- R63: BASKETSTAT (the order of its two BADARG tests: log 46). -/
def Obligations.BasketstatReadsABasket : Prop :=
  ∀ (s : State) (v : Service), s.handed .basketstat v →
    let d := byteAt (v.word 1) 0
    let i := (v.word 2).toNat
    let l := s.basketOf d
    let flashes := (l.filter fun n => (s.story n).cls = .flash).length
    let age (n : Nat) : Nat := if (s.story n).entryTime ≤ s.clock.tod then s.clock.tod - (s.story n).entryTime
      else s.clock.tod + 86400 - (s.story n).entryTime
    if 15 < d then exec .basketstatSlip s = .next (s.answered v 0 0 (result 0x13 1 0 0))
    else if 2046 < i then exec .basketstatSlip s = .next (s.answered v 0 0 (result 0x13 2 0 0))
    else ∃ (w5 : Word) (oldest : Nat), exec .basketstatSlip s
        = .next (s.answered v w5 (packNat oldest) (result 0x10 (l.length % 256) (l.length / 256) (min 255 flashes)))
      ∧ (l.length ≤ i → w5 = 0)
      ∧ (∀ n, l[i]? = some n → w5 = packBytes (n % 256) (n / 256) (s.story n).cls.number 0)
      ∧ (∀ n, n ∈ l → age n ≤ oldest) ∧ (l = [] → oldest = 0) ∧ (l ≠ [] → ∃ n, n ∈ l ∧ age n = oldest)

/-! ### Chapter 5: copyfitting -/

/-- R76 to R78: the tests of SPEC and UNSPEC in order; SPEC stores the clamped values and is a change to the story; UNSPEC removes the spec, the
story's place in the queue and its count. -/
def Obligations.SpecAndUnspecWriteTheFitRecord : Prop :=
  ∀ (s : State) (v : Service) (k : SlipKind) (c : Instr), (k = .spec ∧ c = .specSlip) ∨ (k = .unspec ∧ c = .unspecSlip) → s.handed k v →
    let n := (v.word 1).toNat
    let st := s.story n
    let f := st.fit
    let size := max 10 (min 144 (halfAt (v.word 2) 0))
    let leading := max size (min 240 (halfAt (v.word 2) 1))
    let measure := max 36 (min 2016 (halfAt (v.word 3) 0))
    let font := byteAt (v.word 3) 3
    let mu := measure * 18 / size
    let indent := min (min 72 (byteAt (v.word 3) 2)) (mu - 18)
    let fails (code d1 : Nat) : Prop := exec c s = .next (s.answered v 0 0 (result code d1 0 0))
    let notes : List Notice := .screenFit n :: (if st.placements = [] then [] else [.pageFit n])
    if n = 0 ∨ 2047 < n ∨ st.custody = .free then fails 0x17 0
    else if st.custody.number = 1 then fails 0x19 0
    else if st.custody ≠ .held v.position ∧ (s.deskEntry (s.position v.position).desk).makeup = false then fails 0x18 0
    else if s.locked n = true then fails 0x1D 0
    else if k = .spec then
      if 3 < font then fails 0x13 3
      else if mu < 36 then exec c s = .next (s.answered v (packHalves mu 0) 0 (result 0x23 0 0 0))
      else ∃ t : State, exec c s
          = .next (t.answered v (packBytes (mu % 256) (mu / 256) indent 0) (packHalves size leading) (result 0x10 0 0 0))
        ∧ (t.story n).fit.spec = some ⟨size, leading, measure, indent, font⟩ ∧ (t.story n).fit.lines = f.lines
        ∧ (t.story n).fit.outcomes = f.outcomes ∧ (t.story n).custody = st.custody ∧ (∀ m, m ≠ n → t.story m = s.story m)
        ∧ (f.state = .queued → (t.story n).fit.state = .queued ∧ t.fit = s.fit ∧ t.notices = s.notices)
        ∧ (f.state = .counting → (t.story n).fit.state = .counting ∧ (t.story n).fit.changedCount = true ∧ t.fit = s.fit
            ∧ t.notices = s.notices)
        ∧ (f.state ≠ .queued → f.state ≠ .counting → (t.story n).fit.state = .queued
            ∧ t.fit = { s.fit with queue := s.fit.queue ++ [n] } ∧ t.notices = s.notices ++ notes)
        ∧ t = { s with dir := { s.dir with stories := t.dir.stories }, fit := t.fit, notices := t.notices }
    else if f.spec = none then fails 0x22 0
    else ∃ t : State, exec c s = .next (t.answered v (packNat f.state.number) 0 (result 0x10 0 0 0))
      ∧ t.story n = { st with fit := {} } ∧ (∀ m, m ≠ n → t.story m = s.story m)
      ∧ t.fit.queue = s.fit.queue.filter (· ≠ n) ∧ (∀ d, t.fit.count = some d → d.story ≠ n) ∧ t.fit.widths = s.fit.widths
      ∧ (f.state ≠ .none → t.notices = s.notices ++ notes)
      ∧ t = { s with dir := { s.dir with stories := t.dir.stories }, fit := t.fit, notices := t.notices,
                     path := { s.path with orphan := t.path.orphan } }

/-- R94: FITSTAT for a story that is not FREE (a number that names none: NOSTORY with part 0 to 5). -/
def Obligations.FitstatReadsAFitRecord : Prop :=
  ∀ (s : State) (v : Service), s.handed .fitstat v →
    let n := (v.word 1).toNat
    let part := byteAt (v.word 2) 0
    let f := (s.story n).fit
    let state := match f.state with
      | .none => 0 | .queued => 1 | .counting => 2 | .bracketed => 3 | .current => 4 | .error => 5
    let marks := (if f.sat then 1 else 0) + (if f.changedBracket then 2 else 0) + if f.changedCount then 4 else 0
    let place := if n ∈ s.fit.queue then s.fit.queue.idxOf n + 1 else 0
    let h := tget (fun _ => {}) f.outcomes part
    let kind := match h.kind with
      | .nohole => 0 | .fits => 1 | .over => 2 | .short => 3
    let named := 1 ≤ n ∧ n ≤ 2047 ∧ (s.story n).custody ≠ .free
    (¬ named → part ≤ 5 → exec .fitstatSlip s = .next (s.answered v 0 0 (result 0x17 0 0 0)))
    ∧ (named → 5 < part → exec .fitstatSlip s = .next (s.answered v 0 0 (result 0x13 2 0 0)))
    ∧ (named → part = 0 → exec .fitstatSlip s
        = .next (s.answered v (packHalves f.lines place) (packNat f.depth) (result 0x10 state marks 0)))
    ∧ (named → 1 ≤ part → part ≤ 4 → exec .fitstatSlip s
        = .next (s.answered v (packHalves h.lines h.amount) (packHalves (h.cut.getD 0) 0) (result 0x10 kind (if h.cut = none then 0 else 1) 0)))
    ∧ (named → part = 5 → f.spec = none → exec .fitstatSlip s = .next (s.answered v 0 0 (result 0x10 0 0 0)))
    ∧ (named → part = 5 → ∀ sp, f.spec = some sp → exec .fitstatSlip s = .next (s.answered v (packHalves sp.size sp.leading)
        (packBytes (sp.measure % 256) (sp.measure / 256) sp.indent sp.font) (result 0x10 1 0 0)))

/-- R69, R74, R87, R88: a write, length or placement notice is a change to a story with a spec; a write to a bracketed story sets its mark; an
opening and an ending notice act by the fit state and the mark (a bracketed story with no spec: log 47). -/
def Obligations.ChangesReachTheFitUnit : Prop :=
  let changed (n : Nat) (g : State) (o : Host.Outcome State Fault Refusal) : Prop :=
    let f := (g.story n).fit
    if f.spec = none ∨ f.state = .queued then o = .next g
    else if f.state = .counting then ∃ t, o = .next t ∧ t.story n = { g.story n with fit := { f with changedCount := true } }
      ∧ (∀ m, m ≠ n → t.story m = g.story m) ∧ t = { g with dir := { g.dir with stories := t.dir.stories } }
    else ∃ t, o = .next t ∧ t.story n = { g.story n with fit := { f with state := .queued } } ∧ (∀ m, m ≠ n → t.story m = g.story m)
      ∧ t = { g with
          dir := { g.dir with stories := t.dir.stories }, fit := { g.fit with queue := g.fit.queue ++ [n] }
          notices := g.notices ++ .screenFit n :: (if (g.story n).placements = [] then [] else [.pageFit n]) }
  (∀ (w : WriteNote) (rest : List Notice) (s : State), s.oldest (fun | .fitWrite _ => true | _ => false) (.fitWrite w) rest →
      let f := (s.story w.story).fit
      (w.story ∉ s.fit.bracketed → changed w.story { s with notices := rest } (exec .fitWriteNotice s))
      ∧ (w.story ∈ s.fit.bracketed → ∃ t, exec .fitWriteNotice s = .next t
          ∧ (t.story w.story).fit = { f with changedBracket := true, changedCount := f.changedCount || f.state == .counting }
          ∧ (∀ m, m ≠ w.story → t.story m = s.story m) ∧ t = { s with dir := { s.dir with stories := t.dir.stories }, notices := rest }))
  ∧ (∀ (n blocks : Nat) (rest : List Notice) (s : State), s.oldest (fun | .fitLength _ _ => true | _ => false) (.fitLength n blocks) rest →
      changed n { s with notices := rest } (exec .fitLengthNotice s))
  ∧ (∀ (n e : Nat) (rest : List Notice) (s : State), s.oldest (fun | .fitPlacement _ _ => true | _ => false) (.fitPlacement n e) rest →
      changed n { s with notices := rest } (exec .fitPlacementNotice s))
  ∧ (∀ (n : Nat) (rest : List Notice) (s : State),
      s.oldest (fun | .fitOpening _ => true | .fitEnding _ _ => true | _ => false) (.fitOpening n) rest →
      ∃ t, exec .fitOpeningNotice s = .next t ∧ t.fit = { s.fit with bracketed := s.fit.bracketed ++ [n] }
        ∧ (t.story n).fit = { (s.story n).fit with
            state := if (s.story n).fit.state = .current then .bracketed else (s.story n).fit.state }
        ∧ (∀ m, m ≠ n → t.story m = s.story m)
        ∧ t.notices = rest ++ (if (s.story n).fit.state = .current
            then .screenFit n :: (if (s.story n).placements = [] then [] else [.pageFit n]) else [])
        ∧ t = { s with dir := { s.dir with stories := t.dir.stories }, fit := t.fit, notices := t.notices })
  ∧ ∀ (n : Nat) (e : BracketEnd) (rest : List Notice) (s : State),
      s.oldest (fun | .fitOpening _ => true | .fitEnding _ _ => true | _ => false) (.fitEnding n e) rest →
      let f := (s.story n).fit
      let requeued := f.changedBracket = true ∧ (f.state = .bracketed ∨ f.state = .error)
      ∃ t, exec .fitEndingNotice s = .next t ∧ t.fit.bracketed = s.fit.bracketed.filter (· ≠ n)
        ∧ (t.story n).fit.changedBracket = false ∧ (t.story n).fit.changedCount = f.changedCount ∧ (t.story n).fit.lines = f.lines
        ∧ (t.story n).fit.state = (if requeued then .queued else if f.state = .bracketed then .current else f.state)
        ∧ t.fit.queue = (if requeued then s.fit.queue ++ [n] else s.fit.queue) ∧ (∀ m, m ≠ n → t.story m = s.story m)
        ∧ t.notices = rest ++ (if requeued ∨ f.state = .bracketed
            then .screenFit n :: (if (s.story n).placements = [] then [] else [.pageFit n]) else [])
        ∧ t = { s with dir := { s.dir with stories := t.dir.stories }, fit := t.fit, notices := t.notices }

/-- R85, R89 to R91, R93: the head story's count begins with its captures, and one with no line to read completes at once; a read walks one copy line and asks for the next, completes the count,
or ends it on an uncorrectable word. A count whose story has a write, a length or a placement on its way to the Fit Unit takes it as it completes, and
its results are discarded (log 58). R79, R83, R84: a walk counts its bytes until SAT, L never passes 4,095, SAT is set only at 4,095 and
stops the walk, and a recorded cut offset stays. -/
def Obligations.CountsWalkAndSaturate : Prop :=
  ((∀ (n : Nat) (later : List Nat) (sp : FitSpec) (s : State), s.active = true → s.fit.count = none → s.fit.queue = n :: later →
      (s.story n).fit.spec = some sp →
      let st := s.story n
      let blocks := st.chain.take (st.filling.getD st.chain.length)
      (blocks ≠ [] → ∃ t c, exec .countStart s = .next t ∧ t.fit.count = some c ∧ t.fit.queue = later
        ∧ c.story = n ∧ c.spec = sp ∧ c.mu = sp.measure * 18 / sp.size ∧ c.blocks = blocks ∧ c.done = 0
        ∧ c.walk.lines = 0 ∧ c.walk.offset = 0 ∧ c.walk.font = sp.font
        ∧ (∀ e k i, tget (fun _ => none) st.placements e = some (k, i) → twf (fun _ => none) st.placements = true →
            ⟨e, ((s.pageAt k).placement i).hole / sp.leading, ((s.pageAt k).placement i).hole / sp.leading, none⟩ ∈ c.walk.budgets)
        ∧ t.fit.request = some (blocks.headD 0 * 1024)
        ∧ (t.story n).fit = { st.fit with state := .counting, changedCount := false, changedBracket := false }
        ∧ (st.fit.state ≠ .counting → .screenFit n ∈ t.notices) ∧ (∀ m, m ≠ n → t.story m = s.story m)
        ∧ t = { s with dir := { s.dir with stories := t.dir.stories }, fit := t.fit, notices := t.notices })
      ∧ (blocks = [] → ∃ t, exec .countStart s = .next t ∧ t.fit.count = none ∧ t.fit.queue = later ∧ (t.story n).fit.lines = 0
          ∧ (t.story n).fit.depth = 0 ∧ (t.story n).fit.state = (if n ∈ s.fit.bracketed then .bracketed else .current)
          ∧ (t.story n).fit.sat = false ∧ (t.story n).fit.spec = some sp ∧ t.fit.request = s.fit.request
          ∧ .screenFit n ∈ t.notices ∧ (∀ m, m ≠ n → t.story m = s.story m)
          ∧ (twf (fun _ => (none : Option (Nat × Nat))) st.placements = true → ∀ e,
              (∀ k i, tget (fun _ => none) st.placements e = some (k, i) →
                let h := ((s.pageAt k).placement i).hole / sp.leading
                (t.story n).fit.outcome e = if h = 0 then ⟨.fits, 0, 0, none⟩ else ⟨.short, h, h, none⟩)
              ∧ (tget (fun _ => none) st.placements e = none → (t.story n).fit.outcome e = ⟨.nohole, 0, 0, none⟩))))
  ∧ ∀ (a : Nat) (c : Count) (s : State), s.path.port = some (.fit a) → s.path.orphan = false → s.fit.count = some c →
      let f := (s.story c.story).fit
      let words := (List.range 16).map fun i => s.wordAt (a + 4 * i)
      let walk := (words.flatMap wordBytes).foldl (Walk.byte c.mu c.spec.indent s.width) c.walk
      let g : State := { s with path := { s.path with port := none } }
      ((∀ i, i < 16 → s.ecc (a + 4 * i) = .clean) → walk.sat = false → c.done + 1 < 16 * c.blocks.length →
        exec .fitReadGrant s = .next { g with fit := { s.fit with
          count := some { c with walk, done := c.done + 1 }
          request := some (c.blocks.getD ((c.done + 1) / 16) 0 * 1024 + (c.done + 1) % 16 * 64) } })
      ∧ ((∀ i, i < 16 → s.ecc (a + 4 * i) = .clean) → walk.sat = true ∨ 16 * c.blocks.length ≤ c.done + 1 → f.changedCount = false →
          noChangeOnWay s.notices c.story →
          let last := if walk.sat then walk else walk.endText c.mu c.spec.indent
          ∃ t, exec .fitReadGrant s = .next t ∧ t.fit = { s.fit with count := none } ∧ (f.state = .counting → .screenFit c.story ∈ t.notices)
            ∧ (t.story c.story).fit.lines = last.lines ∧ (t.story c.story).fit.sat = last.sat
            ∧ (t.story c.story).fit.depth = last.lines * c.spec.leading
            ∧ (∀ b, b ∈ last.budgets → (∀ b', b' ∈ last.budgets → b'.edition = b.edition → b' = b) →
                (t.story c.story).fit.outcome b.edition =
                  if last.lines = b.lines then ⟨.fits, b.lines, 0, none⟩
                  else if b.lines < last.lines then ⟨.over, b.lines, last.lines - b.lines, b.cut⟩
                  else ⟨.short, b.lines, b.lines - last.lines, none⟩)
            ∧ (∀ e, (∀ b, b ∈ last.budgets → b.edition ≠ e) → (t.story c.story).fit.outcome e = ⟨.nohole, 0, 0, none⟩)
            ∧ (t.story c.story).fit.state = (if c.story ∈ s.fit.bracketed then .bracketed else .current)
            ∧ (t.story c.story).fit.spec = f.spec ∧ (∀ m, m ≠ c.story → t.story m = s.story m)
            ∧ t = { g with dir := { s.dir with stories := t.dir.stories }, fit := t.fit, notices := t.notices })
      ∧ ((∀ i, i < 16 → s.ecc (a + 4 * i) = .clean) → walk.sat = true ∨ 16 * c.blocks.length ≤ c.done + 1 →
          f.changedCount = true ∨ ¬ noChangeOnWay s.notices c.story →
          ∃ t, exec .fitReadGrant s = .next t ∧ t.fit.count = none ∧ (f.state = .counting → .screenFit c.story ∈ t.notices)
            ∧ (c.story ∈ s.fit.bracketed → t.fit.queue = s.fit.queue
                ∧ (t.story c.story).fit = { f with state := .bracketed, changedCount := false, changedBracket := true })
            ∧ (c.story ∉ s.fit.bracketed → t.fit.queue = s.fit.queue ++ [c.story]
                ∧ (t.story c.story).fit = { f with state := .queued, changedCount := false })
            ∧ noChangeOnWay t.notices c.story ∧ (∀ m, m ≠ c.story → t.story m = s.story m)
            ∧ (∀ m, noChangeOnWay [m] c.story → m ∈ s.notices → m ∈ t.notices)
            ∧ t = { g with dir := { s.dir with stories := t.dir.stories }, fit := { s.fit with count := none, queue := t.fit.queue },
                           notices := t.notices })
      ∧ ((∃ i, i < 16 ∧ s.ecc (a + 4 * i) = .uncorrected) → f.changedCount = false →
          ∃ t, exec .fitReadGrant s = .next t ∧ t.fit.count = none ∧ (t.story c.story).fit = { f with state := .error }
            ∧ ∀ i, i < 16 → s.ecc (a + 4 * i) = .uncorrected → .fault ⟨.store, 6, a + 4 * i, true, true⟩ ∈ t.notices))
  ∧ (∀ (mu indent : Nat) (width : Nat → Nat → Nat) (w : Walk) (bytes : List Byte), w.lines ≤ 4095 → (w.sat = true → w.lines = 4095) →
    let u := bytes.foldl (Walk.byte mu indent width) w
    u.lines ≤ 4095 ∧ w.lines ≤ u.lines ∧ (u.sat = true → u.lines = 4095) ∧ (u.sat = false → u.offset = w.offset + bytes.length)
      ∧ (w.sat = true → u = w)
      ∧ u.budgets.map (fun b => (b.edition, b.lines)) = w.budgets.map (fun b => (b.edition, b.lines))
      ∧ ∀ (i : Nat) (b : Budget) (o : Nat), w.budgets[i]? = some b → b.cut = some o → (u.budgets[i]?).bind (·.cut) = some o)

/-! ### Chapter 6: screens -/

/-- R97 to R100: VIEW, SCROLL and RESHOW: the view and its known length, the clamped top line, and the rows they mark. -/
def Obligations.ViewsAreSetMovedAndReshown : Prop :=
  (∀ (s : State) (v : Service), s.handed .view v →
    let n := (v.word 1).toNat
    let p := v.position
    let known := (s.story n).filled * 16
    let top := min (known - 22) (v.word 2).toNat
    if n ≠ 0 ∧ (2047 < n ∨ (s.story n).custody = .free) then exec .viewSlip s = .next (s.answered v 0 0 (result 0x17 0 0 0))
    else ∃ t : State, exec .viewSlip s
        = .next (if n = 0 then t.answered v 0 0 (result 0x10 0 0 0) else t.answered v (packNat top) (packNat known) (result 0x10 0 0 0))
      ∧ t.viewOf p = (if n = 0 then ⟨none, 0, 0⟩ else ⟨some n, top, known⟩) ∧ (∀ q, q ≠ p → t.viewOf q = s.viewOf q)
      ∧ s.marksRows t s.notices (fun q r => q = p ∧ r < 23)
      ∧ t = { s with screen := { s.screen with views := t.screen.views, dirty := t.screen.dirty }, notices := t.notices })
  ∧ (∀ (s : State) (v : Service), s.handed .scroll v →
    let p := v.position
    let w := s.viewOf p
    let top := min (w.known - 22) (Int.toNat (w.top + (v.word 1).toInt))
    if w.story = none then exec .scrollSlip s = .next (s.answered v 0 0 (result 0x19 0 0 0))
    else ∃ t : State, exec .scrollSlip s = .next (t.answered v (packNat top) (packNat w.known) (result 0x10 0 0 0))
      ∧ t.viewOf p = ⟨w.story, top, w.known⟩ ∧ (∀ q, q ≠ p → t.viewOf q = s.viewOf q)
      ∧ s.marksRows t s.notices (fun q r => q = p ∧ r < 23)
      ∧ t = { s with screen := { s.screen with views := t.screen.views, dirty := t.screen.dirty }, notices := t.notices })
  ∧ ∀ (s : State) (v : Service), s.handed .reshow v →
    ∃ t : State, exec .reshowSlip s = .next (t.answered v 0 0 (result 0x10 0 0 0))
      ∧ s.marksRows t s.notices (fun q _ => q = v.position)
      ∧ t = { s with screen := { s.screen with dirty := t.screen.dirty }, notices := t.notices }

/-- R97, R102 to R104: the rows each notice to the Screen Unit marks: the fit row for the fit, lock, placement and mark notices and an opening;
every row of the story for an ending; the row of the copy line for a write, which a bracket holds back unless it is an intake notice; the rows that change for a length; the basket row for a hand, a
basket and an edition, with the fit rows of an edition's stories when its state has changed (log 25). -/
def Obligations.NoticesMarkTheirRows : Prop :=
  let onlyRows (s t : State) : Prop := t = { s with screen := { s.screen with dirty := t.screen.dirty }, notices := t.notices }
  (∀ (n e : Nat) (c : Instr) (x : Notice) (sort : Notice → Bool) (rest : List Notice) (s : State), s.tablesCanonical →
    (c = .screenFitNotice ∧ x = .screenFit n ∧ sort = (fun | .screenFit _ => true | _ => false))
      ∨ (c = .lockNotice ∧ x = .lock n ∧ sort = (fun | .lock _ => true | _ => false))
      ∨ (c = .screenPlacementNotice ∧ x = .screenPlacement n e ∧ sort = (fun | .screenPlacement _ _ => true | _ => false))
      ∨ (c = .markNotice ∧ x = .mark n ∧ sort = (fun | .mark _ => true | _ => false)) →
    s.oldest sort x rest →
    ∃ t, exec c s = .next t ∧ s.marksRows t rest (fun p r => s.shows p n ∧ r = 22) ∧ onlyRows s t)
  ∧ (∀ (n : Nat) (rest : List Notice) (s : State), s.tablesCanonical →
    s.oldest (fun | .screenOpening _ => true | .screenEnding _ _ => true | _ => false) (.screenOpening n) rest →
    ∃ t, exec .screenOpeningNotice s = .next t ∧ s.marksRows t rest (fun p r => s.shows p n ∧ r = 22)
      ∧ t = { s with
          screen := { s.screen with dirty := t.screen.dirty, bracketed := s.screen.bracketed ++ [n] }, notices := t.notices })
  ∧ (∀ (n : Nat) (e : BracketEnd) (rest : List Notice) (s : State), s.tablesCanonical →
    s.oldest (fun | .screenOpening _ => true | .screenEnding _ _ => true | _ => false) (.screenEnding n e) rest →
    ∃ t, exec .screenEndingNotice s = .next t ∧ s.marksRows t rest (fun p r => s.shows p n ∧ r < 23)
      ∧ t = { s with
          screen := { s.screen with dirty := t.screen.dirty, bracketed := s.screen.bracketed.filter (· ≠ n) }, notices := t.notices })
  ∧ (∀ (n line : Nat) (m : Notice) (rest : List Notice) (s : State), s.tablesCanonical →
    (∃ w : WriteNote, m = .screenWrite w ∧ w.story = n ∧ w.line = line) ∨ m = .screenLine n line →
    s.oldest (fun | .screenWrite _ => true | .screenLine _ _ => true | _ => false) m rest →
    ∃ t, exec .screenWriteNotice s = .next t
      ∧ s.marksRows t rest (fun p r => (n ∈ s.screen.bracketed → m = .screenLine n line) ∧ s.shows p n ∧ r < 22 ∧ (s.viewOf p).top + r = line ∧ line < (s.viewOf p).known)
      ∧ onlyRows s t)
  ∧ (∀ (n blocks : Nat) (rest : List Notice) (s : State), s.tablesCanonical →
    s.oldest (fun | .screenLength _ _ => true | _ => false) (.screenLength n blocks) rest →
    ∃ t, exec .screenLengthNotice s = .next t
      ∧ (∀ p, s.shows p n → t.viewOf p = ⟨some n, min (s.viewOf p).top (blocks * 16 - 22), blocks * 16⟩)
      ∧ (∀ p, ¬ s.shows p n → t.viewOf p = s.viewOf p)
      ∧ s.marksRows t rest (fun p r => s.shows p n ∧ r < 22 ∧ (blocks * 16 - 22 < (s.viewOf p).top
          ∨ (min (s.viewOf p).known (blocks * 16) ≤ (s.viewOf p).top + r ∧ (s.viewOf p).top + r < max (s.viewOf p).known (blocks * 16))))
      ∧ t = { s with screen := { s.screen with views := t.screen.views, dirty := t.screen.dirty }, notices := t.notices })
  ∧ (∀ (p : Nat) (rest : List Notice) (s : State), s.oldest (fun | .hand _ => true | _ => false) (.hand p) rest →
    ∃ t, exec .handNotice s = .next t ∧ s.marksRows t rest (fun q r => q = p ∧ r = 23) ∧ onlyRows s t)
  ∧ (∀ (d : Nat) (rest : List Notice) (s : State), s.tablesCanonical → s.oldest (fun | .basket _ => true | _ => false) (.basket d) rest →
    ∃ t, exec .basketNotice s = .next t ∧ s.marksRows t rest (fun p r => (s.position p).desk = d ∧ r = 23) ∧ onlyRows s t)
  ∧ ∀ (e : Nat) (changed : Bool) (rest : List Notice) (s : State), s.tablesCanonical →
    s.oldest (fun | .edition _ _ => true | _ => false) (.edition e changed) rest →
    ∃ t, exec .editionNotice s = .next t
      ∧ s.marksRows t rest (fun p r => r = 23
          ∨ (changed = true ∧ r = 22 ∧ ∃ n x, s.shows p n ∧ (e, x) ∈ (s.story n).placements))
      ∧ onlyRows s t

/-- R106, R109, R110, R113, R117: a dirty notice to an AWAKE link with no row in hand fetches the lowest dirty row of its position in turn, though a
census be on its way: a text row showing a copy line is asked of the store; one at or past the known or the filled length, or with no story, is sent
blank. A text row read from the store is sent with its bytes shown as R106 gives, or with 64 bytes of 7Fh; it is given up when its position has left
the drop, and marked again when the drop is no longer PRESENT. The fit row and the basket row are composed at once from the state as it stands (R107, R108). A sent row is counted, the next
turn is taken as a waiting control frame begins, and a round of turns that finds no other row stops them. -/
def Obligations.RowsAreFetchedAndSent : Prop :=
  (∀ (k : Fin 16) (d p r : Nat) (rest : List Notice) (s : State),
    s.oldest (fun | .dirty l _ => decide (l = k.val) | _ => false) (.dirty k d) rest →
    let l := s.link k
    l.state = .awake → (l.frame = none → l.control = []) → (∀ d' r' c, l.frame ≠ some (.row d' r' c)) → (∀ d' r', l.frame ≠ some (.blank d' r')) →
    l.hand = none → d < 8 → (l.drop d).state = .present → l.turn = d →
    s.positionOn k d = some p → r < 22 → (s.dirtyMap p).getLsbD r = true → (∀ q, q < r → (s.dirtyMap p).getLsbD q = false) →
    let w := s.viewOf p
    let line := w.top + r
    (∀ n, w.story = some n → line < w.known → line / 16 < (s.story n).filled →
      ∃ t, exec (.dirtyNotice k) s = .next t ∧ t.screen.requests
            = s.screen.requests ++ [⟨k, (s.story n).chain.getD (line / 16) 0 * 1024 + line % 16 * 64⟩]
        ∧ t.link k = { l with hand := some ⟨p, d, r, false, none⟩, turn := (d + 1) % 8, turning := true } ∧ (∀ j, j ≠ k.val → t.link j = s.link j)
        ∧ (t.dirtyMap p).getLsbD r = false ∧ (∀ q, q < 24 → q ≠ r → (t.dirtyMap p).getLsbD q = (s.dirtyMap p).getLsbD q)
        ∧ (∀ q, q ≠ p → t.dirtyMap q = s.dirtyMap q)
        ∧ t = { s with
            notices := rest, links := t.links, screen := { s.screen with dirty := t.screen.dirty, requests := t.screen.requests } })
    ∧ ((∀ n, w.story = some n → w.known ≤ line ∨ (s.story n).filled ≤ line / 16) →
      (s.position p).inUse = true → (s.position p).link = k → (s.position p).drop = d →
      ∃ t, exec (.dirtyNotice k) s = .next t
        ∧ t.link k = { l with
            hand := some ⟨p, d, r, true, some (List.replicate 64 0x20#8)⟩, turn := (d + 1) % 8, turning := true
            frame := if l.frame = none then some (.blank d r) else l.frame }
        ∧ (∀ j, j ≠ k.val → t.link j = s.link j) ∧ (t.dirtyMap p).getLsbD r = false
        ∧ (∀ q, q < 24 → q ≠ r → (t.dirtyMap p).getLsbD q = (s.dirtyMap p).getLsbD q) ∧ (∀ q, q ≠ p → t.dirtyMap q = s.dirtyMap q)
        ∧ t = { s with notices := rest, links := t.links, screen := { s.screen with dirty := t.screen.dirty } }))
  ∧ (∀ (k : Fin 16) (d p : Nat) (rest : List Notice) (s : State),
    s.oldest (fun | .dirty l _ => decide (l = k.val) | _ => false) (.dirty k d) rest →
    let l := s.link k
    let q := s.position p
    l.state = .awake → l.frame = none → l.control = [] → l.hand = none → d < 8 → (l.drop d).state = .present → l.turn = d →
    s.positionOn k d = some p → q.inUse = true → q.link = k → q.drop = d → (∀ r, r < 22 → (s.dirtyMap p).getLsbD r = false) →
    let sends (r : Nat) (chars : List Byte) : Prop := ∃ t, exec (.dirtyNotice k) s = .next t
      ∧ t.link k = { l with
          hand := some ⟨p, d, r, true, some chars⟩, turn := (d + 1) % 8, turning := true
          frame := some (if chars = List.replicate 64 0x20#8 then .blank d r else .row d r chars) }
      ∧ (∀ j, j ≠ k.val → t.link j = s.link j)
      ∧ (∀ x, x < 24 → (t.dirtyMap p).getLsbD x = (decide (x ≠ r) && (s.dirtyMap p).getLsbD x)) ∧ (∀ q, q ≠ p → t.dirtyMap q = s.dirtyMap q)
      ∧ t = { s with notices := rest, links := t.links, screen := { s.screen with dirty := t.screen.dirty } }
    let space (n : Nat) : List Byte := List.replicate n 0x20
    let shows (c : Bool) (t : String) : List Byte := if c then ascii t else space t.length
    ((s.dirtyMap p).getLsbD 22 = true → (s.viewOf p).story = none → sends 22 (space 64))
    ∧ ((s.dirtyMap p).getLsbD 22 = true → ∀ (n : Nat) (chosen : Option Nat), (s.viewOf p).story = some n →
        let st := s.story n
        twf (fun _ => (none : Option (Nat × Nat))) st.placements = true →
        (match chosen with
          | none => st.placements = []
          | some e => (∃ x, (e, x) ∈ st.placements)
            ∧ (((s.editionOf e).isOpen = true ∧ ∀ e' x, (e', x) ∈ st.placements → (s.editionOf e').isOpen = true → e ≤ e')
              ∨ ((∀ e' x, (e', x) ∈ st.placements → (s.editionOf e').isOpen = false) ∧ ∀ e' x, (e', x) ∈ st.placements → e' ≤ e))) →
        let h : HoleResult := match chosen with
          | some e => tget (fun _ => ({} : HoleResult)) st.fit.outcomes e
          | none => {}
        sends 22 (st.slug ++ space 1
          ++ ascii (match st.fit.state with
            | .none => "NONE " | .queued => "QUEUE" | .counting => "COUNT" | .bracketed => "BRACK" | .current => "CURR " | .error => "ERROR")
          ++ space 1 ++ ascii "L" ++ rightJust 4 st.fit.lines ++ shows st.fit.sat "+" ++ space 1
          ++ ascii "E" ++ (match chosen with
            | some e => [digit e]
            | none => ascii "-")
          ++ space 1 ++ ascii "H" ++ (if h.kind = .nohole then space 3 else rightJust 3 h.lines) ++ space 1
          ++ (match h.kind with
            | .nohole => ascii "NOHL" ++ space 4
            | .fits => ascii "FITS" ++ space 4
            | .over => ascii "OVER" ++ rightJust 4 h.amount
            | .short => ascii "SHRT" ++ rightJust 4 h.amount)
          ++ space 1 ++ shows st.truncated "TRUNC" ++ space 1 ++ shows st.gapped "GAP" ++ space 1 ++ shows (s.locked n) "SET" ++ space 1
          ++ shows (decide (n ∈ s.screen.bracketed)) "BRKT" ++ space 3))
    ∧ ((s.dirtyMap p).getLsbD 22 = false → (s.dirtyMap p).getLsbD 23 = true → ∀ (oldest : Nat) (left : List Byte),
        let basket := s.basketOf q.desk
        let age (n : Nat) : Nat := if (s.story n).entryTime ≤ s.clock.tod then s.clock.tod - (s.story n).entryTime
          else s.clock.tod + 86400 - (s.story n).entryTime
        let due (e togo : Nat) : Prop := 1 ≤ e ∧ e ≤ 4 ∧ (s.editionOf e).isOpen = true ∧ ∃ x, (s.editionOf e).deadline = some x
          ∧ togo = if s.clock.tod ≤ x then x - s.clock.tod else x + 86400 - s.clock.tod
        (∀ n, n ∈ basket → age n ≤ oldest) → (basket = [] → oldest = 0) → (basket ≠ [] → ∃ n, n ∈ basket ∧ age n = oldest) →
        ((s.clock.clockSet = false ∨ ∀ e x, ¬ due e x) ∧ left = ascii " -:--"
          ∨ s.clock.clockSet = true ∧ ∃ e x, due e x ∧ (∀ e' x', due e' x' → x ≤ x')
            ∧ left = rightJust 2 (x / 3600) ++ ascii ":" ++ [digit (x % 3600 / 60 / 10), digit (x % 3600 / 60)]) →
        sends 23 ((s.deskEntry q.desk).name ++ space 1 ++ rightJust 4 basket.length ++ space 1 ++ ascii "F"
          ++ rightJust 2 (min 99 (basket.filter fun n => (s.story n).cls == .flash).length) ++ space 1 ++ ascii "A"
          ++ rightJust 3 (min 999 (oldest / 60)) ++ space 1 ++ ascii "D" ++ left ++ space 1 ++ ascii "H" ++ [digit q.hand.length] ++ space 1
          ++ (match q.hand with
            | n :: _ => (s.story n).slug
            | [] => space 12)
          ++ space 21)))
  ∧ (∀ (q : ScreenReq) (h : RowInHand) (s : State), s.path.port = some (.screen q) → s.path.orphan = false →
    let l := s.link q.link
    let pos := s.position h.position
    l.hand = some h → l.state = .awake → l.frame = none → l.control = [] → pos.inUse = true → pos.link = q.link → pos.drop = h.drop →
    (l.drop h.drop).state = .present →
    let bytes := (List.range 16).flatMap fun i => wordBytes (s.wordAt (q.addr + 4 * i))
    let shown := bytes.map fun b => if b = 0x01 ∨ (0x10 ≤ b.toNat ∧ b.toNat ≤ 0x13) ∨ (0x20 ≤ b.toNat ∧ b.toNat ≤ 0x7F) then b else 0x20#8
    let chars := if (List.range 16).all (fun i => s.ecc (q.addr + 4 * i) != .uncorrected) then shown else List.replicate 64 0x7F#8
    ∃ t, exec .screenFetchGrant s = .next t
      ∧ t.link q.link = { l with
          hand := some { h with chars := some chars }
          frame := some (if chars = List.replicate 64 0x20#8 then .blank h.drop h.row else .row h.drop h.row chars) }
      ∧ (∀ j, j ≠ q.link → t.link j = s.link j) ∧ t.path.port = none
      ∧ (∀ i, i < 16 → s.ecc (q.addr + 4 * i) = .uncorrected → .fault ⟨.store, 5, q.addr + 4 * i, true, true⟩ ∈ t.notices)
      ∧ ((∀ i, i < 16 → s.ecc (q.addr + 4 * i) = .clean) → t.notices = s.notices ∧ t.path = { s.path with port := none })
      ∧ t = { s with links := t.links, path := t.path, notices := t.notices })
  -- R117: the row in hand given up as its frame is about to begin
  ∧ (∀ (q : ScreenReq) (h : RowInHand) (s : State), s.path.port = some (.screen q) → s.path.orphan = false →
    let l := s.link q.link
    let pos := s.position h.position
    let there := pos.inUse = true ∧ pos.link = q.link ∧ pos.drop = h.drop
    l.hand = some h → l.state = .awake → l.frame = none → l.control = [] → (∀ i, i < 16 → s.ecc (q.addr + 4 * i) = .clean) →
    (∀ d p, d < 8 → (l.drop d).state = .present → s.positionOn q.link d = some p → s.dirtyMap p = 0) →
    let gone (t : State) : Prop := t.link q.link = { l with hand := none, turning := false } ∧ (∀ j, j ≠ q.link → t.link j = s.link j)
      ∧ t = { s with links := t.links, screen := { s.screen with dirty := t.screen.dirty }, notices := t.notices
                     path := { s.path with port := none } }
    (¬ there → ∃ t, exec .screenFetchGrant s = .next t ∧ gone t ∧ t.notices = s.notices ∧ t.screen = s.screen)
    ∧ (there → (l.drop h.drop).state ≠ .present → h.row < 24 → twf (fun _ => ({} : Position)) s.dir.positions = true →
      ∃ t, exec .screenFetchGrant s = .next t ∧ gone t
        ∧ (∀ p r, r < 24 → ((t.dirtyMap p).getLsbD r = true ↔ (s.dirtyMap p).getLsbD r = true ∨ (p = h.position ∧ r = h.row)))
        ∧ t.notices = s.notices ++ (if (s.dirtyMap h.position).getLsbD h.row then [] else [.dirty q.link h.drop])))
  ∧ ∀ (k : Fin 16) (f : DownFrame) (s : State), let l := s.link k
    l.frame = some f → ((∃ d r c, f = .row d r c) ∨ ∃ d r, f = .blank d r) → s.active = true →
    let sent : Link := { l with frame := none, hand := none, rowsSent := min 65535 (l.rowsSent + 1) }
    (l.state ≠ .awake → ∃ t, exec (.rowFrameEnd k) s = .next t ∧ t.link k = sent
      ∧ (∀ j, j ≠ k.val → t.link j = s.link j) ∧ t = { s with links := t.links })
    ∧ (l.state = .awake → (∀ d p, (l.drop d).state = .present → s.positionOn k d = some p → s.dirtyMap p = 0) →
      ∃ t, exec (.rowFrameEnd k) s = .next t
        ∧ t.link k = { sent with turning := false, frame := l.control.head?, control := l.control.tail }
        ∧ (∀ j, j ≠ k.val → t.link j = s.link j) ∧ t = { s with links := t.links })
    ∧ ∀ (d p r n : Nat), l.state = .awake → l.turning = true → d < 8 → l.turn = d → (l.drop d).state = .present → s.positionOn k d = some p →
      r < 22 → (s.dirtyMap p).getLsbD r = true → (∀ q, q < r → (s.dirtyMap p).getLsbD q = false) → (s.viewOf p).story = some n →
      let line := (s.viewOf p).top + r
      line < (s.viewOf p).known → line / 16 < (s.story n).filled →
      ∃ t, exec (.rowFrameEnd k) s = .next t
        ∧ t.link k = { sent with
            hand := some ⟨p, d, r, false, none⟩, turn := (d + 1) % 8, frame := l.control.head?, control := l.control.tail }
        ∧ t.screen.requests = s.screen.requests ++ [⟨k, (s.story n).chain.getD (line / 16) 0 * 1024 + line % 16 * 64⟩]
        ∧ (t.dirtyMap p).getLsbD r = false ∧ (∀ q, q < 24 → q ≠ r → (t.dirtyMap p).getLsbD q = (s.dirtyMap p).getLsbD q)
        ∧ (∀ q, q ≠ p → t.dirtyMap q = s.dirtyMap q) ∧ (∀ j, j ≠ k.val → t.link j = s.link j)
        ∧ t = { s with links := t.links, screen := { s.screen with dirty := t.screen.dirty, requests := t.screen.requests } }

/-! ### Chapter 7: the screen links -/

/-- R118 to R121, R123: an idle link falls asleep with SLEEP to the drops that are PRESENT then (log 68); a WAKE acts by the link's state; a wake try drives, asks
the eight drops and waits; its window ends AWAKE, in the next try, or OFF with its WAKEFAIL record. A census asks the drops that are ABSENT at
the WAKE (log 49), and none starts while one is waiting (log 50); it starts no turns (R117). A wake that ends AWAKE has
the 24 rows of each PRESENT drop's position marked (R105). -/
def Obligations.LinksSleepAndWake : Prop :=
  let only (s t : State) (k : Fin 16) : Prop := (∀ j, j ≠ k.val → t.link j = s.link j) ∧ t = { s with links := t.links }
  (∀ (k : Fin 16) (s : State), let l := s.link k
    let present := (List.range 8).filter fun d => (l.drop d).state == .present
    l.state = .awake → l.sleepDue = true → l.hand = none → l.frame = none → l.control = [] →
    (∀ d p, d ∈ present → s.positionOn k d = some p → s.dirtyMap p = 0) →
    ∃ t, exec (.linkSleep k) s = .next t ∧ only s t k
      ∧ t.link k = { l with
          state := .sleeping, sleepInProgress := present != [], wakePending := false, sleepDue := false
          frame := present.head?.map .sleep, control := present.tail.map .sleep })
  ∧ (∀ (k : Fin 16) (d : Nat) (s : State), let l := s.link k
    l.frame = some (.sleep d) → l.state = .sleeping →
    ∃ t, exec (.sleepFrameEnd k) s = .next t ∧ only s t k
      ∧ (∀ f r, l.control = f :: r → t.link k = { l with frame := some f, control := r })
      ∧ (l.control = [] → l.wakePending = false → t.link k = { l with frame := none, sleepInProgress := false })
      ∧ (l.control = [] → l.wakePending = true → ({ l with frame := none } : Link).wakeBegun (t.link k) 1))
  ∧ (∀ (k : Fin 16) (s : State), let l := s.link k
    (s.active = false ∨ l.state = .waking ∨ (l.state = .off ∧ l.retryDue = false) → exec (.wake k) s = .next s)
    ∧ (s.active = true → ∃ t, exec (.wake k) s = .next t ∧
      ((l.state = .off ∧ l.retryDue = true) ∨ (l.state = .sleeping ∧ l.sleepInProgress = false) → l.wakeBegun (t.link k) 1 ∧ only s t k)
      ∧ (l.state = .sleeping → l.sleepInProgress = true → t.link k = { l with wakePending := true } ∧ only s t k)
      ∧ (l.state = .awake → l.control = [] → l.frame ≠ none →
          t.link k = { l with control := ((List.range 8).filter fun d => (l.drop d).state == .absent).map .helloReq } ∧ only s t k)
      ∧ (∀ a r, l.state = .awake → l.control = [] → l.frame = none →
          ((List.range 8).filter fun d => (l.drop d).state == .absent) = a :: r →
          t.link k = { l with frame := some (.helloReq a), control := r.map .helloReq } ∧ only s t k)
      ∧ (l.state = .awake → l.control = [] → l.hand = none → (∀ d, d < 8 → (l.drop d).state ≠ .absent) →
          t.link k = l ∧ only s t k)
      ∧ (l.state = .awake → l.control ≠ [] → t = s)))
  ∧ (∀ (k : Fin 16) (s : State), let l := s.link k
    l.state = .waking → l.driving = true → l.frame = none →
    ∃ t, exec (.wakeDriveEnd k) s = .next t ∧ only s t k
      ∧ t.link k = { l with driving := false, frame := some (.helloReq 0), control := [1, 2, 3, 4, 5, 6, 7].map .helloReq })
  ∧ (∀ (k : Fin 16) (d : Nat) (s : State), let l := s.link k
    l.frame = some (.helloReq d) → l.state = .waking → l.driving = false →
    ∃ t, exec (.helloReqEnd k) s = .next t ∧ only s t k
      ∧ (∀ f r, l.control = f :: r → t.link k = { l with frame := some f, control := r })
      ∧ (l.control = [] → t.link k = { l with frame := none, window := some 0 }))
  ∧ ∀ (k : Fin 16) (ticks : Nat) (s : State), let l := s.link k
    let present := (List.range 8).filter fun d => (l.drop d).state == .present
    let named := ∃ e, e ∈ s.dir.positions ∧ e.2.inUse = true ∧ e.2.link = k.val
    let off : Link := { l with state := .off, wakeTry := 0, retryDue := false, driving := false, control := [], window := none }
    l.state = .waking → l.window = some ticks →
    (ticks < 20 → exec (.wakeWindowEnd k) s = .next s)
    ∧ (20 ≤ ticks → ∃ t, exec (.wakeWindowEnd k) s = .next t ∧ (∀ j, j ≠ k.val → t.link j = s.link j)
      ∧ (present = [] → l.wakeTry < 3 → l.wakeBegun (t.link k) (l.wakeTry + 1) ∧ t = { s with links := t.links })
      ∧ (present = [] → 3 ≤ l.wakeTry → named →
          t.link k = off ∧ t = { s with links := t.links, notices := s.notices ++ [.fault ⟨.screen, 1, k.val, true, true⟩] })
      ∧ (present = [] → 3 ≤ l.wakeTry → ¬ named → t.link k = off ∧ t = { s with links := t.links })
      ∧ (present ≠ [] → (t.link k).state = .awake ∧ (t.link k).wakeTry = 0 ∧ (t.link k).idleTime = 0 ∧ (t.link k).drops = l.drops
          ∧ (t.link k).window = none ∧ s.wakeMarks t k ∧ t = { s with links := t.links, screen := t.screen, notices := t.notices }))

/-- R115, R116, R120, R122 to R124: a well-formed or a bad HELLO in WAKING (a second one: log 51) and AWAKE (from a FAULTY drop: log 63), one in SLEEPING, one in OFF, whose
values are stored when it calls a wake (log 39); a ROWBAD that counts, the 32nd of them, and one that is ignored; a header of another kind, and a
discarded one. The headers carry their own check, and one that is corrected raises the
link's count and is then taken as the clean one (R115). The eighth answer ends the try (R121, log 26) and has its marks made, as a well-formed HELLO in
AWAKE has (R105). -/
def Obligations.UpstreamFramesAreTaken : Prop :=
  ∀ (k : Fin 16) (d : Fin 8) (s : State), s.active = true →
    let l := s.link k
    let r := l.drop d
    let drops (t : State) : Prop := (∀ e, e ≠ d.val → (t.link k).drop e = l.drop e) ∧ (∀ j, j ≠ k.val → t.link j = s.link j)
    (∀ (rows : Fin 32) (version : Fin 8) (columns : Byte),
      let h := makeHeader (0x11 + 32 * d.val) (rows.val + 32 * version.val) columns.toNat
      let good := 24 ≤ rows.val ∧ 64 ≤ columns.toNat
      let bad : Notice := .fault ⟨.screen, 3, k.val * 8 + d.val, true, true⟩
      (l.state = .waking → (∃ e, e < 8 ∧ e ≠ d.val ∧ (l.drop e).answered = false) → ∃ t, exec (.hello k h) s = .next t ∧ drops t
        ∧ (good → (t.link k).drop d = ⟨.present, 0, rows, columns.toNat, version, true⟩ ∧ t = { s with links := t.links })
        ∧ (¬ good → (t.link k).drop d = ⟨.absent, r.rowbad, rows, columns.toNat, version, true⟩
            ∧ t = { s with links := t.links, notices := s.notices ++ [bad] }))
      ∧ (l.state = .waking → (∀ e, e < 8 → e ≠ d.val → (l.drop e).answered = true) →
        let new : Drop := if good then ⟨.present, 0, rows, columns.toNat, version, true⟩
          else ⟨.absent, r.rowbad, rows, columns.toNat, version, true⟩
        let someone := good ∨ ∃ e, e < 8 ∧ e ≠ d.val ∧ (l.drop e).state = .present
        let named := ∃ e, e ∈ s.dir.positions ∧ e.2.inUse = true ∧ e.2.link = k.val
        let sent : List Notice := s.notices ++ if good then [] else [bad]
        ∃ t, exec (.hello k h) s = .next t ∧ (∀ j, j ≠ k.val → t.link j = s.link j)
          ∧ (someone → drops t ∧ (t.link k).drop d = new ∧ (t.link k).state = .awake ∧ (t.link k).wakeTry = 0 ∧ (t.link k).idleTime = 0
              ∧ (t.link k).driving = false ∧ (t.link k).window = none ∧ s.wakeMarks t k
              ∧ (twf (fun _ => ({} : Position)) s.dir.positions = true → l.hand = none →
                  ∃ more, t.notices = sent ++ more ∧ ∀ m, m ∈ more → ∃ e, m = .dirty k e)
              ∧ t = { s with links := t.links, screen := t.screen, notices := t.notices })
          ∧ (¬ someone → l.wakeTry < 3 → (l.putDrop d new).wakeBegun (t.link k) (l.wakeTry + 1) ∧ t = { s with links := t.links, notices := sent })
          ∧ (¬ someone → 3 ≤ l.wakeTry → drops t ∧ (t.link k).drop d = new
              ∧ t.link k = { l with
                  state := .off, wakeTry := 0, retryDue := false, driving := false, control := [], window := none, drops := (t.link k).drops }
              ∧ (named → t = { s with links := t.links, notices := sent ++ [.fault ⟨.screen, 1, k.val, true, true⟩] })
              ∧ (¬ named → t = { s with links := t.links, notices := sent })))
      ∧ (l.state = .awake → ∃ t, exec (.hello k h) s = .next t ∧ drops t
        ∧ (good → (t.link k).drop d = ⟨.present, 0, rows, columns.toNat, version, r.answered⟩
            ∧ t = { s with links := t.links, screen := t.screen, notices := t.notices }
            ∧ (twf (fun _ => ({} : Position)) s.dir.positions = true →
              let marked (p r : Nat) : Prop := (s.dirtyMap p).getLsbD r = true ∨ s.positionOn k d = some p
              ((∃ x, l.hand = some x ∧ (l.frame ≠ none ∨ x.chars = none)) →
                ∀ p r, r < 24 → ((t.dirtyMap p).getLsbD r = true ↔ marked p r))
              ∧ (l.hand = none → l.rowOnPair = false → ∀ p r, r < 24 → ((t.dirtyMap p).getLsbD r = true ↔
                  marked p r ∧ ∀ x, (t.link k).hand = some x → ¬ (x.position = p ∧ x.row = r)))))
        ∧ (¬ good → (t.link k).drop d = ⟨.absent, r.rowbad, rows, columns.toNat, version, r.answered⟩
            ∧ t = { s with links := t.links, notices := s.notices ++ [bad] }))
      ∧ (l.state = .sleeping → ∃ t, exec (.hello k h) s = .next t ∧ (∀ j, j ≠ k.val → t.link j = s.link j) ∧ t = { s with links := t.links }
        ∧ (l.sleepInProgress = true → t.link k = { l with wakePending := true })
        ∧ (l.sleepInProgress = false → l.wakeBegun (t.link k) 1))
      ∧ (l.state = .off → l.retryDue = false → exec (.hello k h) s = .next s)
      ∧ (l.state = .off → l.retryDue = true → twf (fun _ => ({} : Drop)) l.drops = true → ∃ t, exec (.hello k h) s = .next t
        ∧ (∀ j, j ≠ k.val → t.link j = s.link j) ∧ t = { s with links := t.links } ∧ l.wakeBegun (t.link k) 1
        ∧ (t.link k).drop d = ⟨.absent, r.rowbad, rows, columns.toNat, version, false⟩
        ∧ ∀ e, e ≠ d.val → (t.link k).drop e = { l.drop e with state := .absent, answered := false }))
    ∧ (∀ row : Byte, let h := makeHeader (0x12 + 32 * d.val) row.toNat 0
      let counts := (l.state = .awake ∨ l.state = .sleeping) ∧ r.state = .present ∧ row.toNat ≤ 23
      (counts → ∃ t, exec (.rowbad k h) s = .next t ∧ drops t
        ∧ (t.link k).drop d = { r with rowbad := min (r.rowbad + 1) 32, state := if 32 ≤ r.rowbad + 1 then .faulty else .present }
        ∧ (∀ p, s.positionOn k d = some p → (s.position p).inUse = true → (t.dirtyMap p).getLsbD row.toNat = true)
        ∧ (32 ≤ r.rowbad + 1 → .fault ⟨.screen, 2, k.val * 8 + d.val, true, true⟩ ∈ t.notices)
        ∧ t = { s with links := t.links, screen := { s.screen with dirty := t.screen.dirty }, notices := t.notices })
      ∧ (¬ counts → ∃ t, exec (.rowbad k h) s = .next t ∧ t.link k = { l with ignored := min 255 (l.ignored + 1) }
        ∧ (∀ j, j ≠ k.val → t.link j = s.link j) ∧ t = { s with links := t.links }))
    ∧ (∀ (kind : Fin 32) (b1 b2 : Byte), kind.val ≠ 0x11 → kind.val ≠ 0x12 →
      ∃ t, exec (.ignoredUpstreamFrame k (makeHeader (kind.val + 32 * d.val) b1.toNat b2.toNat)) s = .next t
        ∧ t.link k = { l with ignored := min 255 (l.ignored + 1) } ∧ (∀ j, j ≠ k.val → t.link j = s.link j) ∧ t = { s with links := t.links })
    ∧ (∀ (h : BitVec 32) (data : BitVec 24), checkHeader h = .used data true →
      let kind := data.toNat % 32
      let clean := makeHeader (data.toNat % 256) (data.toNat / 256 % 256) (data.toNat / 65536)
      ∃ u : State, u.link k = { l with corrected := min 65535 (l.corrected + 1) } ∧ (∀ j, j ≠ k.val → u.link j = s.link j)
        ∧ u = { s with links := u.links }
        ∧ (kind = 0x11 → exec (.hello k h) s = exec (.hello k clean) u)
        ∧ (kind = 0x12 → exec (.rowbad k h) s = exec (.rowbad k clean) u)
        ∧ (kind ≠ 0x11 → kind ≠ 0x12 → exec (.ignoredUpstreamFrame k h) s = exec (.ignoredUpstreamFrame k clean) u))
    ∧ ∀ h : BitVec 32, checkHeader h = .discarded → ∃ t, exec (.discardedHeader k h) s = .next t
        ∧ t.link k = { l with discarded := min 65535 (l.discarded + 1) } ∧ (∀ j, j ≠ k.val → t.link j = s.link j)
        ∧ t = { s with links := t.links }

/-- R127: LINKSTAT, its BADARG tested before its NOPRIV (the model's choice: log 61). -/
def Obligations.LinkstatReadsALink : Prop :=
  ∀ (s : State) (v : Service), s.handed .linkstat v →
    let k := byteAt (v.word 1) 0
    let clear := byteAt (v.word 1) 1
    let part := byteAt (v.word 1) 2
    let drop := byteAt (v.word 1) 3
    let l := s.link k
    let d := l.drop drop
    let state := match l.state with
      | .off => 0 | .waking => 1 | .awake => 2 | .sleeping => 3
    let dropState := match d.state with
      | .absent => 0 | .present => 1 | .faulty => 2
    let bit (i : Nat) : Nat := if (l.drop i).state = .present then 2 ^ i else 0
    let present := bit 0 + bit 1 + bit 2 + bit 3 + bit 4 + bit 5 + bit 6 + bit 7
    let wakeTry := if l.state = .waking then l.wakeTry else 0
    if 15 < k ∨ 1 < clear ∨ 1 < part ∨ 7 < drop then exec .linkstatSlip s = .next (s.answered v 0 0 (result 0x13 1 0 0))
    else if clear = 1 ∧ s.slip.privMask.getLsbD v.agent = false then exec .linkstatSlip s = .next (s.answered v 0 0 (result 0x16 0 0 0))
    else if part = 0 then ∃ t : State, exec .linkstatSlip s = .next (t.answered v (packHalves l.corrected l.discarded)
          (packBytes (l.rowsSent % 256) (l.rowsSent / 256) l.ignored 0) (result 0x10 state wakeTry present))
      ∧ t.link k = (if clear = 1 then { l with corrected := 0, discarded := 0, rowsSent := 0, ignored := 0 } else l)
      ∧ (∀ j, j ≠ k → t.link j = s.link j) ∧ t = { s with links := { s.links with table := t.links.table } } ∧ (clear = 0 → t = s)
    else exec .linkstatSlip s
      = .next (s.answered v (packBytes d.rows d.columns d.version 0) 0 (result 0x10 dropState d.rowbad 0))

/-! ### The Clock -/

/-- R45, R8, R71, R118, R121, R132, R162, R167, R169, R174: with nothing due, a 1 ms tick counts the Clock and, in ACTIVE, every timer that
runs; a sleep or a silence that it brings stays due until it is taken (log 12; of a silence time past a
lowered setting: log 67); in PASSIVE it counts the Clock and an open pair alone (no silence
time: log 70). The tick
that brings a bracket's time left or the lock limit to 0 ends the bracket TIME, the attempt LOCKLIMIT. The 1 s tick after a wrap advances the
time-of-day; the minute tick marks the basket rows of AWAKE links and lets OFF links try again (log 13). -/
def Obligations.TicksCountTime : Prop :=
  (∀ s : State, s.active = true → s.clock.secondDue = false → (∀ p, s.path.pair = some p → p.ticks < 2) →
    (∀ k, k < 8 → (s.bracketAt k).inUse = true → 1 < (s.bracketAt k).timeLeft) → (∀ k, k < 8 → (s.line k).silenceDue = false) →
    (∀ n, s.page.lockLeft = some n → 1 < n) → (s.set.state = .awaiting → s.set.answerTime < s.set.answerLimit) →
    (∀ n, s.set.offerWait = some n → n < 1000) → s.set.rxTicks < 100 →
    (∀ k, k < 16 → (s.link k).sleepDue = false ∧ ∀ n, (s.link k).window = some n → n < 20) →
    ∃ t, exec .msTick s = .next t
      ∧ t.clock = (if s.clock.ms < 999 then { s.clock with ms := s.clock.ms + 1 } else { s.clock with secondDue := true })
      ∧ t.path.pair = s.path.pair.map (fun p => { p with ticks := p.ticks + 1 })
      ∧ (∀ k, k < 8 → t.bracketAt k
          = if (s.bracketAt k).inUse then { s.bracketAt k with timeLeft := (s.bracketAt k).timeLeft - 1 } else s.bracketAt k)
      ∧ (∀ k, k < 16 → ((s.link k).state = .off ∨ (s.link k).state = .sleeping → t.link k = s.link k)
          ∧ ((s.link k).state = .waking → t.link k = { s.link k with window := (s.link k).window.map (· + 1) })
          ∧ ((s.link k).state = .awake → (t.link k).idleTime = (if s.linkIdle k then min 60000 ((s.link k).idleTime + 1) else 0)
              ∧ (t.link k).sleepDue = (s.linkIdle k && s.links.idle != 0 && decide (s.links.idle ≤ (t.link k).idleTime))
              ∧ t.link k = { s.link k with idleTime := (t.link k).idleTime, sleepDue := (t.link k).sleepDue }))
      ∧ (∀ k, k < 8 → let l := s.line k
          (l.enable = true → l.held = false → l.silenced = false → s.intake.takeSilence ≠ 0 → t.line k = { l with
              silenceTime := l.silenceTime + 1, silenceDue := decide (s.intake.takeSilence * 1000 ≤ l.silenceTime + 1) })
          ∧ (l.enable = false ∨ l.held = true ∨ l.silenced = true ∨ s.intake.takeSilence = 0 → t.line k = l))
      ∧ t.page = { s.page with lockLeft := s.page.lockLeft.map (· - 1) }
      ∧ t.set.answerTime = (if s.set.state = .awaiting ∧ s.set.held = false ∧ s.set.cancel = none then s.set.answerTime + 1
          else s.set.answerTime)
      ∧ t.set.offerWait = (if s.set.state = .starting then s.set.offerWait.map (· + 1) else s.set.offerWait)
      ∧ t.set = { s.set with
          answerTime := t.set.answerTime, offerWait := t.set.offerWait
          rxTicks := if s.set.rx = [] then s.set.rxTicks else s.set.rxTicks + 1 }
      ∧ t = { s with clock := t.clock, path := { s.path with pair := t.path.pair }, desk := { s.desk with brackets := t.desk.brackets },
                     links := { s.links with table := t.links.table }, intake := { s.intake with lines := t.intake.lines },
                     page := t.page, set := t.set })
  ∧ (∀ s : State, s.active = false → s.clock.secondDue = false → (∀ p, s.path.pair = some p → p.ticks < 2) → s.set.state = .down →
    s.set.rxTicks < 100 → (∀ k, k < 16 → (s.link k).state = .off) →
    exec .msTick s = .next { s with
      clock := if s.clock.ms < 999 then { s.clock with ms := s.clock.ms + 1 } else { s.clock with secondDue := true }
      path := { s.path with pair := s.path.pair.map fun p => { p with ticks := p.ticks + 1 } } })
  ∧ (∀ (k : Nat) (s : State), s.active = true → k < 8 → let b := s.bracketAt k
    b.inUse = true → b.timeLeft ≤ 1 → ∃ t, exec .msTick s = .next t ∧ (t.bracketAt k).inUse = false
      ∧ (t.story b.story).bracketRef = none ∧ (t.story b.story).lastBracket = .time
      ∧ .screenEnding b.story .time ∈ t.notices ∧ .fitEnding b.story .time ∈ t.notices ∧ .pageEnding b.story .time ∈ t.notices)
  ∧ (∀ (k n : Nat) (s : State), s.active = true → s.page.lockLeft = some n → n ≤ 1 → s.sendingPage = some k → s.set.state ≠ .awaiting →
    (∀ o, .outcome o ∉ s.notices) → ∃ t, exec .msTick s = .next t ∧ (t.pageAt k).state = .queued ∧ (t.pageAt k).lastOutcome = .lockLimit
      ∧ (t.pageAt k).attempts = (s.pageAt k).attempts ∧ t.page.queue = s.page.queue ∧ t.page.lockLeft = none
      ∧ .cancel .lockLimit ∈ t.notices)
  ∧ (∀ s : State, s.clock.secondDue = true → s.clock.minuteDue = false → s.clock.deadlineTicks = [] →
    let tod := (s.clock.tod + 1) % 86400
    exec .secondTick s = .next { s with clock := { s.clock with
      tod := tod, ms := 0, secondDue := false, minuteDue := decide (tod % 60 = 0)
      deadlineTicks := if s.active ∧ s.clock.clockSet then [(1, tod), (2, tod), (3, tod), (4, tod)] else [] } })
  ∧ ∀ s : State, s.clock.minuteDue = true →
    let g : State := { s with clock := { s.clock with minuteDue := false } }
    (s.active = false → exec .minuteTick s = .next g)
    ∧ (s.active = true → ∃ t, exec .minuteTick s = .next t
      ∧ (∀ k d p, k < 16 → d < 8 → (s.link k).state = .awake → s.positionOn k d = some p → (s.position p).inUse = true →
          (t.dirtyMap p).getLsbD 23 = true)
      ∧ (∀ k, k < 16 → (s.link k).state = .off → (∀ d p, d < 8 → s.positionOn k d = some p → s.dirtyMap p = 0) →
          s.tablesCanonical → t.link k = { s.link k with retryDue := true })
      ∧ (∀ k, k < 16 → (s.link k).state = .off → (∃ d p, d < 8 ∧ s.positionOn k d = some p ∧ s.dirtyMap p ≠ 0) →
          (s.link k).wakeBegun (t.link k) 1)
      ∧ (∀ k, k < 16 → (s.link k).state ≠ .off → t.link k = s.link k)
      ∧ t = { g with links := t.links, screen := { s.screen with dirty := t.screen.dirty }, notices := t.notices })

/-! ### Chapter 8: wire intake -/

/-- R130 to R133, R143: a character whose stop bit is at mark is received with its parity checked, under the settings its frame began with and past a
LINEHOLD if it began before it; one with that bit at space is held back and received as spoiled at the return to mark, or as a break (on a held line:
log 64); a break and a silence set their markers; a full FIFO loses the character; LINEHOLD and LINERESUME, which leave a silence already taken as it is (log 38). -/
def Obligations.CharactersAndMarkersEnterTheFifo : Prop :=
  let only (s t : State) (k : Nat) : Prop := (∀ j, j ≠ k → t.line j = s.line j)
    ∧ t = { s with notices := t.notices, intake := { s.intake with lines := t.intake.lines } }
  let received (s t : State) (k : Nat) (v : Byte) (spoilt : Bool) : Prop :=
    let l := s.line k
    let heard : Line := { l with
      silenceTime := 0, silenced := false, silenceDue := false, heldFrame := none, received := min 65535 (l.received + 1)
      spoiled := if spoilt then min 65535 (l.spoiled + 1) else l.spoiled }
    let sent : List Notice := s.notices ++ if spoilt then [.fault ⟨.wire, 1, k, true, false⟩] else []
    (l.marks = [] → l.fifo.length < 512 → t.line k = { heard with fifo := l.fifo ++ [.char v spoilt] } ∧ t.notices = sent)
      ∧ (512 ≤ l.fifo.length → .gap ∉ l.marks → t.line k = { heard with marks := l.marks ++ [.gap], lost := min 65535 (l.lost + 1) }
          ∧ t.notices = sent ++ [.fault ⟨.wire, 2, k, true, true⟩])
      ∧ (512 ≤ l.fifo.length → .gap ∈ l.marks → t.line k = { heard with lost := min 65535 (l.lost + 1) } ∧ t.notices = sent)
      ∧ only s t k
  (∀ (k : Fin 8) (f : WireFrame) (s : State), let l := s.line k
    let format : LineFormat := match f.begun with
      | some b => b
      | none => ⟨l.rate, l.dataBits, l.parity, l.stopBits⟩
    let v : Byte := if format.dataBits = 7 then BitVec.ofNat 8 (f.bits.toNat % 128) else f.bits
    let sum := (((List.range 8).filter fun i => v.getLsbD i).length + f.parityBit.toNat) % 2
    let spoilt := (format.parity == 1 && sum == 1) || (format.parity == 2 && sum == 0)
    (s.active = false ∨ l.enable = false ∨ (l.held = true ∧ f.begun = none) → exec (.character k f) s = .next s)
    ∧ (s.active = true → l.enable = true → l.held = false ∨ f.begun ≠ none → l.heldFrame = none → l.breakTaken = false →
    (f.stopMark = true → ∃ t, exec (.character k f) s = .next t ∧ received s t k v spoilt)
    ∧ (f.stopMark = false → ∃ t, exec (.character k f) s = .next t ∧ t.line k = { l with heldFrame := some v } ∧ t.notices = s.notices
        ∧ only s t k)))
  ∧ (∀ (k : Fin 8) (s : State), let l := s.line k
    (∀ v, l.heldFrame = some v → ∃ t, exec (.returnToMark k) s = .next t ∧ received s t k v true)
    ∧ (l.heldFrame = none → ∃ t, exec (.returnToMark k) s = .next t ∧ t.line k = { l with breakTaken := false } ∧ t.notices = s.notices
        ∧ only s t k))
  ∧ (∀ (k : Fin 8) (s : State), let l := s.line k
    let taken : Line := { l with
      silenceTime := 0, silenced := false, silenceDue := false, heldFrame := none, breaks := min 65535 (l.breaks + 1), breakTaken := true }
    (s.active = false ∨ l.enable = false ∨ (l.held = true ∧ l.heldFrame = none) ∨ l.breakTaken = true → exec (.wireBreak k) s = .next s)
    ∧ (s.active = true → l.enable = true → l.held = false ∨ l.heldFrame ≠ none → l.breakTaken = false →
    ∃ t, exec (.wireBreak k) s = .next t ∧ t.notices = s.notices ∧ only s t k
      ∧ (.brk ∈ l.marks → t.line k = taken)
      ∧ (l.marks = [] → l.fifo.length < 512 → t.line k = { taken with fifo := l.fifo ++ [.mark .brk] })
      ∧ (.brk ∉ l.marks → 512 ≤ l.fifo.length → t.line k = { taken with marks := l.marks ++ [.brk] })))
  ∧ (∀ (k : Fin 8) (s : State), let l := s.line k
    let taken : Line := { l with silenced := true, silenceDue := false }
    s.active = true → l.enable = true → l.held = false → l.silenceDue = true →
    ∃ t, exec (.silence k) s = .next t ∧ t.notices = s.notices ∧ only s t k
      ∧ (.silence ∈ l.marks → t.line k = taken)
      ∧ (l.marks = [] → l.fifo.length < 512 → t.line k = { taken with fifo := l.fifo ++ [.mark .silence] })
      ∧ (.silence ∉ l.marks → 512 ≤ l.fifo.length → t.line k = { taken with marks := l.marks ++ [.silence] }))
  ∧ ∀ (s : State) (v : Service) (kind : SlipKind) (c : Instr),
    (kind = .linehold ∧ c = .lineholdSlip) ∨ (kind = .lineresume ∧ c = .lineresumeSlip) → s.handed kind v →
    let k := byteAt (v.word 1) 0
    let l := s.line k
    let state := match l.take with
      | .idle => 0 | .header => 1 | .body => 2 | .truncating => 3 | .discarding => 4 | .ending => 5
    if 7 < k then exec c s = .next (s.answered v 0 0 (result 0x13 1 0 0))
    else if l.held = (kind == .linehold) then exec c s = .next (s.answered v 0 0 (result 0x22 0 0 0))
    else ∃ t : State, exec c s = .next (t.answered v (packNat state) (packNat l.story) (result 0x10 0 0 0))
      ∧ t.line k = (if kind = .linehold then { l with held := true }
          else { l with held := false, silenceTime := 0, silenceDue := false })
      ∧ t.notices = s.notices ∧ only s t k

/-- R134 to R142: an unspoiled 02h in IDLE or DISCARDING starts a take, or is lost with NOSTORY; other characters there and in TRUNCATING are
discarded; header characters, the header's end, and the 200th character; body characters, dropped or placed, with the wrap at position 63; a
paragraph end, and the block it may take or the room it may not find (log 21); the endings by 03h, 02h, BREAK and SILENCE in each take state, and
GAP; a text and a fill grant, and the complete buffer that waits through a fill and is handed at its last grant; the delivery of an ended take, after which the line's copy line is 0 (log 55) or a pending start begins another. -/
def Obligations.TakesAreStartedFilledAndDelivered : Prop :=
  let pad (bytes : List Byte) : List Byte := (bytes ++ List.replicate 64 0).take 64
  let zeros : List Byte := List.replicate 64 0
  let placed (x : Byte × Bool) : Option Byte :=
    if x.2 then some 0x7F
    else if x.1 = 0x0D then some 0x01
    else if x.1 = 0x09 then some 0x20
    else if 0x20 ≤ x.1.toNat ∧ x.1.toNat ≤ 0x7E then some x.1
    else none
  let room (s : State) (l : Line) : Prop :=
    l.copyLine < 1024 ∧ l.copyLine / 16 < (s.story l.story).chain.length ∧ l.copyLine / 16 < (s.story l.story).filled
  let onlyLine (s t : State) (k : Nat) : Prop :=
    (∀ j, j ≠ k → t.line j = s.line j) ∧ t = { s with intake := { s.intake with lines := t.intake.lines } }
  let asks (s t : State) (k : Nat) (bytes : List Byte) : Prop := let l := s.line k
    t.intake.requests = s.intake.requests
      ++ [⟨k, l.story, l.copyLine, (s.story l.story).chain.getD (l.copyLine / 16) 0 * 1024 + l.copyLine % 16 * 64, false, bytes⟩]
  (∀ (k : Fin 8) (r : List Entry) (s : State), let l := s.line k
    s.active = true → l.full = none → l.backlog = [] → l.marks = [] → l.fifo.length ≤ 512 → l.outstanding = false →
    l.fifo = .char 0x02 false :: r → l.take = .idle ∨ l.take = .discarding →
    (∀ n b later, 1 ≤ n → n ≤ 2047 → (s.story n).custody = .free → (∀ m, 1 ≤ m → m < n → (s.story m).custody ≠ .free) →
      s.freeSet = b :: later →
      ∃ t, exec (.assemblerCharacter k) s = .next t
        ∧ t.story n = { custody := .intake k, slug := makeSlug (ascii "WIRE" ++ [BitVec.ofNat 8 (0x30 + k.val)]), chain := [b],
                        filling := some 0, entryTime := s.clock.tod }
        ∧ (∀ m, m ≠ n → t.story m = s.story m) ∧ t.blockEntry b = ⟨n, 0⟩ ∧ (∀ c, c ≠ b → t.blockEntry c = s.blockEntry c)
        ∧ t.line k = { l with
            fifo := r, take := .header, story := n, cls := .routine, header := [], buf := [], copyLine := 0, fill := some (b, 0)
            outstanding := true }
        ∧ (∀ j, j ≠ k.val → t.line j = s.line j)
        ∧ t.intake.requests = s.intake.requests ++ [⟨k, n, 0, b * 1024, true, List.replicate 64 0⟩]
        ∧ t = { s with dir := t.dir, intake := t.intake })
    ∧ ((∀ n, 1 ≤ n → n ≤ 2047 → (s.story n).custody ≠ .free) ∨ s.freeSet = [] →
      ∃ t, exec (.assemblerCharacter k) s = .next t
        ∧ t.line k = { l with fifo := r, take := .discarding, story := 0, takesLost := min 65535 (l.takesLost + 1) }
        ∧ (∀ j, j ≠ k.val → t.line j = s.line j)
        ∧ t = { s with intake := { s.intake with lines := t.intake.lines }, notices := s.notices ++ [.fault ⟨.wire, 3, k, true, true⟩] }))
  ∧ (∀ (k : Fin 8) (c : Byte) (spoilt : Bool) (r : List Entry) (s : State), let l := s.line k
    let n := l.story
    s.active = true → l.full = none → l.backlog = [] → l.marks = [] → l.fifo.length ≤ 512 → l.fifo = .char c spoilt :: r →
    (l.take = .header → c = 0x0D → spoilt = false → ∃ t, exec (.assemblerCharacter k) s = .next t
      ∧ t.line k = { l with fifo := r, take := .body, cls := (t.line k).cls, header := [] } ∧ (t.line k).cls = (t.story n).cls
      ∧ (∀ h, l.header.head? = some (h, false) → (t.story n).cls
          = if h = 0x46 ∨ h = 0x42 then .flash else if h = 0x55 then .urgent else .routine)
      ∧ (∀ h, l.header.head? = some (h, true) → (t.story n).cls = .routine) ∧ (l.header = [] → (t.story n).cls = .routine)
      ∧ (t.story n).slug = (if l.header.length ≤ 1 then makeSlug (ascii "WIRE" ++ [BitVec.ofNat 8 (0x30 + k.val)])
          else makeSlug (l.header.tail.map fun x => if x.2 then 0x20 else x.1))
      ∧ (t.story n).custody = (s.story n).custody ∧ (t.story n).chain = (s.story n).chain ∧ (∀ m, m ≠ n → t.story m = s.story m)
      ∧ t = { s with dir := t.dir, intake := { s.intake with lines := t.intake.lines } })
    ∧ (l.take = .header → l.header.length < 199 → spoilt = true ∨ (c ≠ 0x0D ∧ c ≠ 0x02 ∧ c ≠ 0x03) →
      ∃ t, exec (.assemblerCharacter k) s = .next t ∧ t.line k = { l with fifo := r, header := l.header ++ [(c, spoilt)] }
        ∧ t = { s with intake := { s.intake with lines := t.intake.lines } })
    ∧ (l.take = .body → l.fill = none → spoilt = true ∨ (0x20 ≤ c.toNat ∧ c.toNat ≤ 0x7E) → l.buf.length < 63 →
      ∃ t, exec (.assemblerCharacter k) s = .next t ∧ t.line k = { l with fifo := r, buf := l.buf ++ [if spoilt then 0x7F else c] }
        ∧ t = { s with intake := { s.intake with lines := t.intake.lines } })
    ∧ (l.take = .body → l.fill = none → l.outstanding = false → c = 0x0D → spoilt = false → l.buf.length < 64 →
      l.copyLine < 1024 → l.copyLine / 16 < (s.story n).chain.length → l.copyLine / 16 < (s.story n).filled →
      ∃ t, exec (.assemblerCharacter k) s = .next t
        ∧ t.line k = { l with fifo := r, buf := [], copyLine := l.copyLine + 1, outstanding := true }
        ∧ t.intake.requests = s.intake.requests
          ++ [⟨k, n, l.copyLine, (s.story n).chain.getD (l.copyLine / 16) 0 * 1024 + l.copyLine % 16 * 64, false,
              ((l.buf ++ [0x01]) ++ List.replicate 64 0).take 64⟩]
        ∧ t = { s with intake := t.intake })
    -- R134, R136: characters discarded and counted, and body characters dropped without a count
    ∧ ((l.take = .idle ∧ (spoilt = true ∨ c ≠ 0x02)) ∨ ((l.take = .truncating ∨ l.take = .discarding) ∧ (spoilt = true ∨ (c ≠ 0x02 ∧ c ≠ 0x03))) →
      ∃ t, exec (.assemblerCharacter k) s = .next t ∧ t.line k = { l with fifo := r, discarded := min 65535 (l.discarded + 1) }
        ∧ onlyLine s t k)
    ∧ (l.take = .body → l.fill = none → placed (c, spoilt) = none → c ≠ 0x02 → c ≠ 0x03 →
      ∃ t, exec (.assemblerCharacter k) s = .next t ∧ t.line k = { l with fifo := r } ∧ onlyLine s t k)
    -- R137: position 63, with a wrap after the last space of positions 32 to 62, or without
    ∧ (l.take = .body → l.fill = none → l.outstanding = false → room s l → l.buf.length = 63 → ∀ b, placed (c, spoilt) = some b → b ≠ 0x01 →
      (∀ q, b ≠ 0x20 → 32 ≤ q → q ≤ 62 → l.buf.getD q 0 = 0x20 → (∀ q', q < q' → q' ≤ 62 → l.buf.getD q' 0 ≠ 0x20) →
        ∃ t, exec (.assemblerCharacter k) s = .next t
          ∧ t.line k = { l with fifo := r, buf := l.buf.drop (q + 1) ++ [b], copyLine := l.copyLine + 1, outstanding := true }
          ∧ asks s t k (pad (l.buf.take (q + 1))) ∧ t = { s with intake := t.intake })
      ∧ (b = 0x20 ∨ (∀ q, 32 ≤ q → q ≤ 62 → l.buf.getD q 0 ≠ 0x20) →
        ∃ t, exec (.assemblerCharacter k) s = .next t
          ∧ t.line k = { l with fifo := r, buf := [], copyLine := l.copyLine + 1, outstanding := true }
          ∧ asks s t k (l.buf ++ [b]) ∧ t = { s with intake := t.intake }))
    -- R139, R140: a paragraph end that needs a block takes the lowest free one, or finds no room
    ∧ (l.take = .body → l.fill = none → l.outstanding = false → c = 0x0D → spoilt = false → l.buf.length < 64 →
      (∀ b later, l.copyLine < 1024 → (s.story n).chain.length ≤ l.copyLine / 16 → s.freeSet = b :: later →
        ∃ t, exec (.assemblerCharacter k) s = .next t
          ∧ t.story n = { s.story n with
              chain := (s.story n).chain ++ [b], filling := some ((s.story n).filling.getD (s.story n).chain.length) }
          ∧ (∀ m, m ≠ n → t.story m = s.story m) ∧ t.blockEntry b = ⟨n, (s.story n).chain.length⟩
          ∧ (∀ x, x ≠ b → t.blockEntry x = s.blockEntry x)
          ∧ t.line k = { l with fifo := r, full := some (pad (l.buf ++ [0x01])), buf := [], fill := some (b, 0), outstanding := true }
          ∧ t.intake.requests = s.intake.requests ++ [⟨k, n, 0, b * 1024, true, zeros⟩]
          ∧ t = { s with dir := t.dir, intake := t.intake })
      ∧ (1024 ≤ l.copyLine ∨ ((s.story n).chain.length ≤ l.copyLine / 16 ∧ s.freeSet = []) →
        ∃ t, exec (.assemblerCharacter k) s = .next t
          ∧ t.line k = { l with fifo := r, buf := [], discarded := min 65535 (l.discarded + 64), take := .truncating }
          ∧ t.story n = { s.story n with truncated := true } ∧ (∀ m, m ≠ n → t.story m = s.story m)
          ∧ t.notices = s.notices ++ (if (s.story n).truncated then [] else [.mark n])
          ∧ t = { s with dir := t.dir, intake := { s.intake with lines := t.intake.lines }, notices := t.notices }))
    -- R135: the 200th header character
    ∧ (l.take = .header → l.header.length = 199 → spoilt = true ∨ (c ≠ 0x0D ∧ c ≠ 0x02 ∧ c ≠ 0x03) →
      let text := (l.header ++ [(c, spoilt)]).filterMap placed
      ∃ t, exec (.assemblerCharacter k) s = .next t ∧ (t.line k).header = [] ∧ (t.line k).cls = .routine
        ∧ (t.story n).cls = .routine ∧ (t.story n).slug = makeSlug (ascii "NOSLUG") ∧ (t.story n).custody = (s.story n).custody
        ∧ (text.length ≤ 63 → 0x01 ∉ text → l.buf = [] → l.fill = none ∨ l.outstanding = true →
            t.line k = { l with fifo := r, take := .body, cls := .routine, header := [], buf := text }
            ∧ t = { s with dir := t.dir, intake := { s.intake with lines := t.intake.lines } })))
  -- R141: the entries that end a take
  ∧ (∀ (k : Fin 8) (i : Instr) (e : Entry) (cut pend : Bool) (r : List Entry) (s : State), let l := s.line k
    let n := l.story
    s.active = true → l.full = none → l.backlog = [] → l.marks = [] → l.fifo.length ≤ 512 → l.fifo = e :: r →
    (i = .assemblerCharacter k ∧ e = .char 0x03 false ∧ cut = false ∧ pend = false)
      ∨ (i = .assemblerCharacter k ∧ e = .char 0x02 false ∧ cut = true ∧ pend = true)
      ∨ (i = .assemblerMarker k ∧ (e = .mark .brk ∨ e = .mark .silence) ∧ cut = true ∧ pend = false) →
    let marked : Bool := cut && l.take != .truncating
    let sent : List Notice := s.notices ++ if marked && !(s.story n).truncated then [.mark n] else []
    let ended : Line := { l with fifo := r, take := .ending, startPending := pend }
    (l.take = .body ∨ l.take = .truncating →
      (l.buf = [] → l.fill = none ∨ l.outstanding = true → ∃ t, exec i s = .next t ∧ t.line k = ended
        ∧ t.story n = { s.story n with truncated := (s.story n).truncated || marked } ∧ (∀ m, m ≠ n → t.story m = s.story m)
        ∧ t.notices = sent
        ∧ t = { s with dir := t.dir, intake := { s.intake with lines := t.intake.lines }, notices := t.notices })
      ∧ (l.buf ≠ [] → l.fill = none → l.outstanding = false → room s l → ∃ t, exec i s = .next t
        ∧ t.line k = { ended with buf := [], copyLine := l.copyLine + 1, outstanding := true } ∧ asks s t k (pad l.buf)
        ∧ t.story n = { s.story n with truncated := (s.story n).truncated || marked } ∧ (∀ m, m ≠ n → t.story m = s.story m)
        ∧ t.notices = sent ∧ t = { s with dir := t.dir, intake := t.intake, notices := t.notices }))
    ∧ (l.take = .header → l.buf = [] → l.outstanding = true → l.copyLine < 1024 → l.copyLine / 16 < (s.story n).chain.length →
      let text := l.header.filterMap placed
      text.length ≤ 63 → 0x01 ∉ text → ∃ t, exec i s = .next t
        ∧ t.line k = { ended with cls := .routine, header := [], full := if text = [] then none else some (pad text) }
        ∧ t.story n = { s.story n with
            cls := if l.header = [] then (s.story n).cls else .routine
            slug := if l.header = [] then (s.story n).slug else makeSlug (ascii "NOSLUG")
            truncated := (s.story n).truncated || marked }
        ∧ (∀ m, m ≠ n → t.story m = s.story m) ∧ t.notices = sent
        ∧ t = { s with dir := t.dir, intake := { s.intake with lines := t.intake.lines }, notices := t.notices })
    ∧ (l.take = .discarding → e ≠ .char 0x02 false → ∃ t, exec i s = .next t
        ∧ t.line k = { l with fifo := r, take := .idle, story := 0, copyLine := 0, buf := [] } ∧ onlyLine s t k)
    ∧ (l.take = .idle → i = .assemblerMarker k → ∃ t, exec i s = .next t ∧ t.line k = { l with fifo := r } ∧ onlyLine s t k))
  ∧ (∀ (k : Fin 8) (r : List Entry) (s : State), let l := s.line k
    let n := l.story
    s.active = true → l.full = none → l.backlog = [] → l.marks = [] → l.fifo.length ≤ 512 → l.fifo = .mark .gap :: r →
    (l.take = .header ∨ l.take = .body ∨ l.take = .truncating → ∃ t, exec (.assemblerMarker k) s = .next t
      ∧ t.line k = { l with fifo := r } ∧ t.story n = { s.story n with gapped := true } ∧ (∀ m, m ≠ n → t.story m = s.story m)
      ∧ t.notices = s.notices ++ (if (s.story n).gapped then [] else [.mark n])
      ∧ t = { s with dir := t.dir, intake := { s.intake with lines := t.intake.lines }, notices := t.notices })
    ∧ (l.take = .idle ∨ l.take = .discarding → ∃ t, exec (.assemblerMarker k) s = .next t ∧ t.line k = { l with fifo := r } ∧ onlyLine s t k))
  ∧ (∀ (q : IntakeReq) (s : State), s.path.port = some (.intake q) → s.path.orphan = false → q.bytes.length = 64 →
    let l := s.line q.line
    l.full = none → l.backlog = [] → l.take ≠ .ending ∨ l.buf = [] →
    (q.fill = false → l.fill = none → ∃ t, exec .intakeWriteGrant s = .next t ∧ t.storeHolds q.addr q.bytes ∧ s.keepsStoreBut t q.addr 64
      ∧ (∀ i, i < 16 → t.ecc (q.addr + 4 * i) = .clean) ∧ t.line q.line = { l with outstanding := false }
      ∧ t = { s with mem := t.mem, flaws := t.flaws, path := { s.path with port := none },
                     notices := s.notices ++ [.screenLine q.story q.copyLine], intake := { s.intake with lines := t.intake.lines } })
    ∧ (q.fill = true → ∀ b i, l.fill = some (b, i) → ∃ t, exec .intakeFillGrant s = .next t ∧ t.storeHolds q.addr q.bytes
      ∧ s.keepsStoreBut t q.addr 64 ∧ (∀ j, j < 16 → t.ecc (q.addr + 4 * j) = .clean)
      ∧ (i + 1 < 16 → t.line q.line = { l with fill := some (b, i + 1), outstanding := true }
          ∧ t.intake.requests = s.intake.requests ++ [⟨q.line, l.story, i + 1, b * 1024 + (i + 1) * 64, true, List.replicate 64 0⟩]
          ∧ t = { s with mem := t.mem, flaws := t.flaws, path := { s.path with port := none }, intake := t.intake })
      ∧ (16 ≤ i + 1 → t.line q.line = { l with fill := none, outstanding := false }
          ∧ t.story l.story = { s.story l.story with filling := none } ∧ (∀ m, m ≠ l.story → t.story m = s.story m)
          ∧ t = { s with mem := t.mem, flaws := t.flaws, path := { s.path with port := none }, dir := t.dir,
                         notices := s.notices ++ [.screenLength l.story (s.story l.story).chain.length],
                         intake := { s.intake with lines := t.intake.lines } })))
  -- R138, R139: the complete buffer that waits is handed at the grant that frees its line, or ends the fill of its block
  ∧ (∀ (q : IntakeReq) (bytes : List Byte) (s : State), s.path.port = some (.intake q) → s.path.orphan = false → q.bytes.length = 64 →
    let l := s.line q.line
    let st := s.story l.story
    l.full = some bytes → l.backlog = [] → l.take ≠ .ending ∨ l.buf = [] →
    let handed : IntakeReq := ⟨q.line, l.story, l.copyLine, st.chain.getD (l.copyLine / 16) 0 * 1024 + l.copyLine % 16 * 64, false, bytes⟩
    let written (t : State) : Prop := t.storeHolds q.addr q.bytes ∧ s.keepsStoreBut t q.addr 64 ∧ (∀ i, i < 16 → t.ecc (q.addr + 4 * i) = .clean)
    (q.fill = false → l.fill = none → l.copyLine / 16 < st.filled → ∃ t, exec .intakeWriteGrant s = .next t ∧ written t
      ∧ t.line q.line = { l with full := none, copyLine := l.copyLine + 1, outstanding := true }
      ∧ t.intake.requests = s.intake.requests ++ [handed]
      ∧ t = { s with mem := t.mem, flaws := t.flaws, path := { s.path with port := none },
                     notices := s.notices ++ [.screenLine q.story q.copyLine], intake := t.intake })
    ∧ (q.fill = true → ∀ b i, l.fill = some (b, i) → ∃ t, exec .intakeFillGrant s = .next t ∧ written t
      ∧ (i + 1 < 16 → t.line q.line = { l with fill := some (b, i + 1), outstanding := true }
          ∧ t.intake.requests = s.intake.requests ++ [⟨q.line, l.story, i + 1, b * 1024 + (i + 1) * 64, true, List.replicate 64 0⟩]
          ∧ t = { s with mem := t.mem, flaws := t.flaws, path := { s.path with port := none }, intake := t.intake })
      ∧ (16 ≤ i + 1 → l.copyLine / 16 < st.chain.length →
          t.line q.line = { l with fill := none, full := none, copyLine := l.copyLine + 1, outstanding := true }
          ∧ t.intake.requests = s.intake.requests ++ [handed]
          ∧ t.story l.story = { st with filling := none } ∧ (∀ m, m ≠ l.story → t.story m = s.story m)
          ∧ t = { s with mem := t.mem, flaws := t.flaws, path := { s.path with port := none }, dir := t.dir,
                         notices := s.notices ++ [.screenLength l.story st.chain.length], intake := t.intake })))
  ∧ ∀ (k : Fin 8) (s : State), let l := s.line k
    let n := l.story
    let d := l.desk
    let rank (m : Nat) : Nat := if m = n then l.cls.number else (s.story m).cls.number
    let cut := (s.story n).truncated
    s.active = true → l.take = .ending → l.backlog = [] → l.full = none → l.buf = [] → l.outstanding = false → l.fill = none →
    (∀ m b later, l.startPending = true → (s.story n).custody = .intake k → 1 ≤ m → m ≤ 2047 → (s.story m).custody = .free →
      (∀ x, 1 ≤ x → x < m → (s.story x).custody ≠ .free) → s.freeSet = b :: later →
      ∃ t, exec (.delivery k) s = .next t
        ∧ t.story n = { s.story n with custody := .basket d, cls := l.cls, entryTime := s.clock.tod }
        ∧ t.story m = { custody := .intake k, slug := makeSlug (ascii "WIRE" ++ [BitVec.ofNat 8 (0x30 + k.val)]), chain := [b]
                        filling := some 0, entryTime := s.clock.tod }
        ∧ (∀ x, x ≠ n → x ≠ m → t.story x = s.story x) ∧ n ∈ t.basketOf d
        ∧ t.line k = { l with
            take := .header, story := m, cls := .routine, header := [], copyLine := 0, fill := some (b, 0), outstanding := true
            startPending := false, delivered := min 65535 (l.delivered + 1)
            takesTruncated := if cut then min 65535 (l.takesTruncated + 1) else l.takesTruncated }
        ∧ t.intake.requests = s.intake.requests ++ [⟨k, m, 0, b * 1024, true, zeros⟩] ∧ t.notices = s.notices ++ [.basket d])
    ∧ (l.startPending = false →
    ∃ t, exec (.delivery k) s = .next t
      ∧ t.story n = { s.story n with custody := .basket d, cls := l.cls, entryTime := s.clock.tod } ∧ (∀ m, m ≠ n → t.story m = s.story m)
      ∧ t.basketOf d = (s.basketOf d).takeWhile (fun m => rank m ≤ l.cls.number) ++ n :: (s.basketOf d).dropWhile (fun m => rank m ≤ l.cls.number)
      ∧ (∀ e, e ≠ d → t.basketOf e = s.basketOf e)
      ∧ t.line k = { l with
          take := .idle, story := 0, copyLine := 0, delivered := min 65535 (l.delivered + 1)
          takesTruncated := if cut then min 65535 (l.takesTruncated + 1) else l.takesTruncated }
      ∧ t = { s with dir := t.dir, desk := { s.desk with baskets := t.desk.baskets }, notices := s.notices ++ [.basket d],
                     intake := { s.intake with lines := t.intake.lines } })

/-- R144: LINESTAT of a line in range, with a clear flag of 0 or 1 and a part of 0 to 2; the operands out of range are section 8.6's, and they are
tested before the privilege (log 54). The copy-line number while no take is open is log 55. -/
def Obligations.LinestatReadsALine : Prop :=
  ∀ (s : State) (v : Service), s.handed .linestat v →
    let k := byteAt (v.word 1) 0
    let clear := byteAt (v.word 1) 1
    let part := byteAt (v.word 1) 2
    let l := s.line k
    let st := s.story l.story
    let state := match l.take with
      | .idle => 0 | .header => 1 | .body => 2 | .truncating => 3 | .discarding => 4 | .ending => 5
    let flags := (if l.enable then 1 else 0) + (if l.held then 2 else 0) + (if st.truncated then 4 else 0) + if st.gapped then 8 else 0
    let bytes := match l.full with
      | some b => b.length
      | none => l.buf.length
    if 7 < k ∨ 1 < clear ∨ 2 < part then exec .linestatSlip s = .next (s.answered v 0 0 (result 0x13 1 0 0))
    else if clear = 1 ∧ s.slip.privMask.getLsbD v.agent = false then exec .linestatSlip s = .next (s.answered v 0 0 (result 0x16 0 0 0))
    else if part = 0 then exec .linestatSlip s = .next (s.answered v (packHalves l.story l.fifo.length)
      (packBytes (l.copyLine % 256) (l.copyLine / 256) bytes 0) (result 0x10 state flags 0))
    else ∃ t : State, exec .linestatSlip s = .next (t.answered v
        (if part = 1 then packHalves l.received l.spoiled else packHalves l.delivered l.takesLost)
        (if part = 1 then packHalves l.lost l.discarded else packHalves l.takesTruncated l.breaks) (result 0x10 0 0 0))
      ∧ t.line k = (if clear = 1 then { l with received := 0, spoiled := 0, lost := 0, discarded := 0, delivered := 0, takesLost := 0,
                                               takesTruncated := 0, breaks := 0 } else l)
      ∧ (∀ j, j ≠ k → t.line j = s.line j) ∧ t = { s with intake := { s.intake with lines := t.intake.lines } } ∧ (clear = 0 → t = s)

/-! ### Chapter 9: pages and editions -/

/-- R149, R152 to R155: PLACE, UNPLACE and COPYPAGE: their tests in order (of the two words of PLACE: log 61), the page and the placement they write, the story's reference and the
placement notices. -/
def Obligations.MakeUpSlipsEditThePageTable : Prop :=
  let outside (e p : Nat) : Prop := e < 1 ∨ 4 < e ∨ p < 1 ∨ 96 < p
  let free (s : State) (k : Nat) : Prop := k < 128 ∧ (s.pageAt k).inUse = false ∧ ∀ j, j < k → (s.pageAt j).inUse = true
  let reference (s : State) (n e : Nat) : Option (Nat × Nat) := tget (fun _ => none) (s.story n).placements e
  let edits (s t : State) (k : Nat) : Prop := (∀ j, j ≠ k → t.pageAt j = s.pageAt j)
    ∧ t = { s with dir := { s.dir with stories := t.dir.stories }, page := { s.page with pages := t.page.pages }, notices := t.notices }
  (∀ (s : State) (v : Service), s.handed .place v →
    let e := byteAt (v.word 1) 0
    let p := byteAt (v.word 1) 1
    let n := halfAt (v.word 2) 0
    let column := byteAt (v.word 2) 2
    let x : Placement := { story := n, column := column, span := max 1 (min (9 - column) (byteAt (v.word 2) 3))
                           hole := max 1 (min 8000 (halfAt (v.word 3) 0)), mode := if byteAt (v.word 1) 2 = 1 then .cut else .refuse }
    let key := s.pageKeyed e p
    let fails (code d1 : Nat) : Prop := exec .placeSlip s = .next (s.answered v 0 0 (result code d1 0 0))
    let placed (t : State) (k i : Nat) : Prop :=
      exec .placeSlip s = .next (t.answered v (packNat i) (packNat (t.pageAt k).placed.length) (result 0x10 0 0 0))
        ∧ (t.pageAt k).placement i = x ∧ (t.pageAt k).state = .making ∧ edits s t k
    let busy := ∃ k, key = some k ∧ ((s.pageAt k).state = .queued ∨ (s.pageAt k).state = .sending)
    let elsewhere := ∃ r, reference s n e = some r ∧ key ≠ some r.1
    ((s.deskEntry (s.position v.position).desk).makeup = false → fails 0x16 0)
    ∧ ((s.deskEntry (s.position v.position).desk).makeup = true →
      (outside e p ∨ 1 < byteAt (v.word 1) 2 → fails 0x13 1)
      ∧ (¬ (outside e p ∨ 1 < byteAt (v.word 1) 2) →
        (column < 1 ∨ 8 < column → fails 0x13 2)
        ∧ (1 ≤ column → column ≤ 8 →
          (n = 0 ∨ 2047 < n ∨ (s.story n).custody = .free → fails 0x17 0)
          ∧ (1 ≤ n → n ≤ 2047 → ((s.story n).custody.number = 1 → fails 0x19 0)
            ∧ (2 ≤ (s.story n).custody.number →
              (busy → fails 0x19 0) ∧ (¬ busy → elsewhere → fails 0x1E 0)
              ∧ (¬ busy → ¬ elsewhere →
                (∀ k i, key = some k → (s.pageAt k).indexOf n = some i → ∃ t : State, placed t k i ∧ t.dir = s.dir
                  ∧ (∀ j, j ≠ i → (t.pageAt k).placement j = (s.pageAt k).placement j)
                  ∧ (((s.pageAt k).placement i).hole = x.hole → t.notices = s.notices)
                  ∧ (((s.pageAt k).placement i).hole ≠ x.hole → t.notices
                      = s.notices ++ [.fitPlacement n (s.pageAt k).edition, .screenPlacement n (s.pageAt k).edition]))
                ∧ (∀ k, key = some k → (s.pageAt k).indexOf n = none → 12 ≤ (s.pageAt k).placed.length → fails 0x1A 0)
                ∧ (∀ k i, key = some k → (s.pageAt k).indexOf n = none → (s.pageAt k).placed.length < 12 →
                    i < 12 → ((s.pageAt k).placement i).story = 0 → (∀ j, j < i → ((s.pageAt k).placement j).story ≠ 0) →
                    ∃ t : State, placed t k i ∧ reference t n (s.pageAt k).edition = some (k, i)
                      ∧ (∀ j, j ≠ i → (t.pageAt k).placement j = (s.pageAt k).placement j) ∧ (∀ m, m ≠ n → t.story m = s.story m)
                      ∧ t.notices = s.notices ++ [.fitPlacement n (s.pageAt k).edition, .screenPlacement n (s.pageAt k).edition])
                ∧ (key = none → (∀ k, k < 128 → (s.pageAt k).inUse = true) → fails 0x1A 0)
                ∧ (key = none → ∀ k, free s k → ∃ t : State, placed t k 0
                    ∧ t.pageAt k = { inUse := true, edition := e, number := p, placements := [(0, x)] } ∧ reference t n e = some (k, 0)
                    ∧ (∀ m, m ≠ n → t.story m = s.story m)
                    ∧ t.notices = s.notices ++ [.fitPlacement n e, .screenPlacement n e])))))))
  ∧ (∀ (s : State) (v : Service), s.handed .unplace v →
    let e := byteAt (v.word 1) 0
    let p := byteAt (v.word 1) 1
    let n := (v.word 2).toNat
    let key := s.pageKeyed e p
    let fails (code d1 : Nat) : Prop := exec .unplaceSlip s = .next (s.answered v 0 0 (result code d1 0 0))
    ((s.deskEntry (s.position v.position).desk).makeup = false → fails 0x16 0)
    ∧ ((s.deskEntry (s.position v.position).desk).makeup = true →
      (outside e p → fails 0x13 1)
      ∧ (¬ outside e p →
        (n = 0 ∨ 2047 < n ∨ (s.story n).custody = .free → fails 0x17 0)
        ∧ (1 ≤ n → n ≤ 2047 → (s.story n).custody ≠ .free →
          (key = none → fails 0x17 0)
          ∧ (∀ k, key = some k → (s.pageAt k).indexOf n = none → fails 0x17 0)
          ∧ (∀ k i, key = some k → (s.pageAt k).indexOf n = some i → (s.pageAt k).state = .queued ∨ (s.pageAt k).state = .sending → fails 0x19 0)
          ∧ (∀ k i, key = some k → (s.pageAt k).indexOf n = some i → ((s.pageAt k).placement i).story = n →
              (s.pageAt k).state ≠ .queued → (s.pageAt k).state ≠ .sending → ∃ t : State,
              exec .unplaceSlip s = .next (t.answered v (packNat (t.pageAt k).placed.length) 0 (result 0x10 0 0 0))
              ∧ ((t.pageAt k).placement i).story = 0 ∧ (t.pageAt k).state = .making
              ∧ ((t.pageAt k).placed = [] → t.pageAt k = {})
              ∧ ((t.pageAt k).placed ≠ [] → ∀ j, j ≠ i → (t.pageAt k).placement j = (s.pageAt k).placement j)
              ∧ reference t n (s.pageAt k).edition = none ∧ (∀ m, m ≠ n → t.story m = s.story m)
              ∧ t.notices = s.notices ++ [.fitPlacement n (s.pageAt k).edition, .screenPlacement n (s.pageAt k).edition]
              ∧ edits s t k)))))
  ∧ ∀ (s : State) (v : Service), s.handed .copypage v →
    let e := byteAt (v.word 1) 2
    let p := byteAt (v.word 1) 3
    let key := s.pageKeyed (byteAt (v.word 1) 0) (byteAt (v.word 1) 1)
    let bad := outside (byteAt (v.word 1) 0) (byteAt (v.word 1) 1) ∨ outside e p
    let fails (code d1 : Nat) : Prop := exec .copypageSlip s = .next (s.answered v 0 0 (result code d1 0 0))
    let slots (q : Nat) := (s.pageAt q).placed.map fun x => (x.1, { x.2 with attempt := none })
    ((s.deskEntry (s.position v.position).desk).makeup = false → fails 0x16 0)
    ∧ ((s.deskEntry (s.position v.position).desk).makeup = true →
      (bad → fails 0x13 1)
      ∧ (¬ bad → (key = none → fails 0x19 0)
        ∧ ∀ q, key = some q → (s.pageKeyed e p ≠ none → fails 0x19 0)
          ∧ (s.pageKeyed e p = none →
            ((∃ x, x ∈ slots q ∧ reference s x.2.story e ≠ none) → fails 0x1E 0)
            ∧ ((∀ x, x ∈ slots q → reference s x.2.story e = none) →
              ((∀ k, k < 128 → (s.pageAt k).inUse = true) → fails 0x1A 0)
              ∧ ∀ k, free s k → (∀ x y, x ∈ slots q → y ∈ slots q → x.2.story = y.2.story → x = y) → ∃ t : State,
                exec .copypageSlip s = .next (t.answered v (packNat (slots q).length) 0 (result 0x10 0 0 0))
                ∧ t.pageAt k = { inUse := true, edition := e, number := p, placements := slots q }
                ∧ (∀ x, x ∈ slots q → reference t x.2.story e = some (k, x.1))
                ∧ t.notices = s.notices ++ (slots q).flatMap (fun x => [.fitPlacement x.2.story e, .screenPlacement x.2.story e])
                ∧ edits s t k)))))

/-- R156, R157, R159: RELEASE's tests in order, the chief's right on a closed edition among them, and its place at the tail of the output queue;
with the set link READY and no page SENDING the pick scan follows at once and picks the page when it is the first that may be (a write or a
change of a story on its way to the Fit Unit holds its page: log 57; a report of the link on its way holds the scan: log 28); WITHDRAW of a QUEUED page, and of the
SENDING page, whose attempt ends with a cancel (log 29). -/
def Obligations.PagesAreReleasedAndWithdrawn : Prop :=
  (∀ (s : State) (v : Service), s.handed .release v →
    let e := byteAt (v.word 1) 0
    let number := byteAt (v.word 1) 1
    let chief := (s.position v.position).chief
    let late := byteAt (v.word 0) 3 % 2
    let oversetBy (p : Page) (x : Nat × Placement) : Prop := x.2.mode = .refuse ∧ (s.story x.2.story).fit.state = .current
      ∧ (tget (fun _ => ({} : HoleResult)) (s.story x.2.story).fit.outcomes p.edition).kind = .over
    let fails (code d1 : Nat) (w5 w6 : Word) : Prop := exec .releaseSlip s = .next (s.answered v w5 w6 (result code d1 0 0))
    ((s.deskEntry (s.position v.position).desk).makeup = false → fails 0x16 0 0 0)
    ∧ ((s.deskEntry (s.position v.position).desk).makeup = true →
      let outside := e < 1 ∨ 4 < e ∨ number < 1 ∨ 96 < number
      (outside → fails 0x13 1 0 0)
      ∧ (¬ outside → (s.pageKeyed e number = none → fails 0x19 0 0 0)
        ∧ ∀ k, s.pageKeyed e number = some k →
          let p := s.pageAt k
          let open_ := p.state = .making ∨ p.state = .stale ∨ p.state = .returned ∨ p.state = .failed
          (¬ open_ → fails 0x19 0 0 0)
          ∧ (open_ →
            (∀ before x after, p.placed = before ++ x :: after → (s.story x.2.story).fit.spec = none →
              (∀ y, y ∈ before → (s.story y.2.story).fit.spec ≠ none) → fails 0x24 0 (packNat x.2.story) 0)
            ∧ ((∀ x, x ∈ p.placed → (s.story x.2.story).fit.spec ≠ none) →
              (∀ before x after, p.placed = before ++ x :: after → oversetBy p x → (∀ y, y ∈ before → ¬ oversetBy p y) →
                fails 0x25 x.1 (packNat x.2.story)
                  (packNat (tget (fun _ => ({} : HoleResult)) (s.story x.2.story).fit.outcomes p.edition).amount))
              ∧ ((∀ x, x ∈ p.placed → ¬ oversetBy p x) →
                let closed := (s.editionOf e).isOpen = false
                (closed → late = 0 → fails 0x26 0 0 0) ∧ (closed → late = 1 → chief = false → fails 0x16 0 0 0)
                ∧ (¬ closed ∨ (late = 1 ∧ chief = true) →
                  (32 ≤ s.page.queue.length → fails 0x27 0 0 0)
                  ∧ (s.page.queue.length < 32 → s.linkReady = false ∨ s.active = false ∨ s.sendingPage ≠ none →
                    ∃ t : State, exec .releaseSlip s = .next (t.answered v
                      (packNat (s.page.queue.length + 1)) (packNat (s.page.queue.length + 1)) (result 0x10 0 0 0))
                    ∧ t.pageAt k = { p with state := .queued, attempts := 0 } ∧ (∀ j, j ≠ k → t.pageAt j = s.pageAt j)
                    ∧ t.page.queue = s.page.queue ++ [k]
                    ∧ t = { s with page := { s.page with pages := t.page.pages, queue := t.page.queue } })
                  ∧ (s.page.queue.length < 32 → s.active = true → s.sendingPage = none → s.set.state = .ready → s.set.startDue = false →
                    (∀ i, .placeEnd i ∉ s.notices) → (∀ o, .outcome o ∉ s.notices) →
                    let ready (q : Page) : Prop := ∀ x, x ∈ q.placed → (s.story x.2.story).fit.state = .current
                      ∧ x.2.story ∉ s.page.bracketed ∧ noChangeOnWay s.notices x.2.story
                    (∀ j, j ∈ s.page.queue → ¬ ready (s.pageAt j)) →
                    ∃ t : State, exec .releaseSlip s = .next (t.answered v
                        (packNat (s.page.queue.length + 1)) (packNat (s.page.queue.length + 1)) (result 0x10 0 0 0))
                      ∧ (∀ j, j ≠ k → t.pageAt j = s.pageAt j)
                      ∧ (¬ ready p → t.pageAt k = { p with state := .queued, attempts := 0 } ∧ t.page.queue = s.page.queue ++ [k]
                        ∧ t = { s with page := { s.page with pages := t.page.pages, queue := t.page.queue, pickHeld := false } })
                      ∧ (ready p → s.path.pair = none → s.set.cancel = none →
                        (t.pageAt k).state = .sending ∧ (t.pageAt k).attempts = 0
                        ∧ (t.pageAt k).placed.map (fun x => (x.1, { x.2 with attempt := none }))
                            = p.placed.map (fun x => (x.1, { x.2 with attempt := none }))
                        ∧ t.page.queue = k :: s.page.queue.filter (· ≠ k) ∧ t.set.state = .sending
                        ∧ t.notices = s.notices ++ p.placed.map (fun x => .lock x.2.story)
                        ∧ t = { s with notices := t.notices, page := t.page, set := t.set })))))))))
  ∧ ∀ (s : State) (v : Service), s.handed .withdraw v →
    let e := byteAt (v.word 1) 0
    let number := byteAt (v.word 1) 1
    let may := (s.deskEntry (s.position v.position).desk).makeup = true ∨ (s.position v.position).chief = true
    let outside := e < 1 ∨ 4 < e ∨ number < 1 ∨ 96 < number
    let fails (code d1 : Nat) : Prop := exec .withdrawSlip s = .next (s.answered v 0 0 (result code d1 0 0))
    (¬ may → fails 0x16 0) ∧ (may → outside → fails 0x13 1) ∧ (may → ¬ outside → s.pageKeyed e number = none → fails 0x19 0)
    ∧ ∀ k, may → ¬ outside → s.pageKeyed e number = some k →
      let p := s.pageAt k
      (p.state ≠ .queued → p.state ≠ .sending → fails 0x19 0)
      ∧ (p.state = .queued → ∃ t : State, exec .withdrawSlip s = .next (t.answered v (packNat 2) 0 (result 0x10 0 0 0))
          ∧ t.pageAt k = { p with state := .making } ∧ (∀ j, j ≠ k → t.pageAt j = s.pageAt j)
          ∧ t.page.queue = s.page.queue.filter (· ≠ k)
          ∧ t = { s with page := { s.page with pages := t.page.pages, queue := t.page.queue } })
      ∧ (p.state = .sending → s.sendingPage = some k → (∀ o, .outcome o ∉ s.notices) → ∃ t : State,
          exec .withdrawSlip s = .next (t.answered v (packNat 3) 0 (result 0x10 0 0 0))
          ∧ (t.pageAt k).state = .making ∧ (t.pageAt k).lastOutcome = .withdrawn ∧ (t.pageAt k).attempts = p.attempts
          ∧ (∀ j, j ≠ k → t.pageAt j = s.pageAt j) ∧ t.page.queue = s.page.queue.filter (· ≠ k) ∧ t.page.lockLeft = none
          ∧ t.notices = s.notices ++ ((p.placed.filter fun x => x.2.locked).map fun x => .lock x.2.story) ++ [.cancel .withdrawn]
          ∧ t = { s with
              notices := t.notices
              page := { s.page with pages := t.page.pages, queue := t.page.queue, lockLeft := none, lockStarted := false } })

/-- R159 to R164: a READY, a fit notice, or the ending of a bracket on a placed story, with the link READY, scans the queue: it passes the pages that
are held, returns one with an OVER story under REFUSE and goes on, and picks the first that is left: its stories are locked and PAGE-OPEN begins, or the
pick is held for a locked pair on one of them; a PLACE-END unlocks; an outcome ends the attempt, and with the link READY a kept page may be picked again
at once (log 28); the tick that brings the lock limit to 0, taken at the Page Unit, cancels the attempt (log 12); a write or a TRIM makes a SET page
STALE; a first refused write to a locked story starts the lock limit; bracket notices. A write or a change on its way to the Fit Unit holds the page of
its story (log 57). -/
def Obligations.PageUnitPicksAndEndsAttempts : Prop :=
  let report (m : Notice) : Prop := m = .ready ∨ (∃ i, m = .placeEnd i) ∨ ∃ o, m = .outcome o
  let isReport : Notice → Bool := fun | .ready | .placeEnd _ | .outcome _ => true | _ => false
  let onlyPage (s t : State) (k : Nat) : Prop := (∀ j, j ≠ k → t.pageAt j = s.pageAt j)
    ∧ t = { s with
        notices := t.notices
        page := { s.page with
          pages := t.page.pages, queue := t.page.queue, lockLeft := t.page.lockLeft, lockStarted := t.page.lockStarted } }
  let bracketing : Notice → Bool := fun | .pageOpening _ => true | .pageEnding _ _ => true | _ => false
  -- R159, R160: a READY, a fit notice, or the ending notice of a bracket on a placed story scans the queue with the link READY
  (∀ (c : Instr) (m : Notice) (sort : Notice → Bool) (n : Nat) (o : BracketEnd) (rest : List Notice) (s : State),
    (c = .ready ∧ m = .ready ∧ sort = isReport)
      ∨ (c = .pageFitNotice ∧ m = .pageFit n ∧ sort = (fun | .pageFit _ => true | _ => false))
      ∨ (c = .pageEndingNotice ∧ m = .pageEnding n o ∧ sort = bracketing ∧ (s.story n).placements ≠ []) →
    s.oldest sort m rest → (∀ m', m' ∈ rest → ¬ report m') →
    s.active = true → s.set.state = .ready → s.set.startDue = false → (∀ j, j ∈ s.page.queue → (s.pageAt j).state ≠ .sending) →
    let br := if c = .pageEndingNotice then s.page.bracketed.filter (· ≠ n) else s.page.bracketed
    let holds (x : Placement) : Prop := (s.story x.story).fit.state ≠ .current ∨ x.story ∈ br ∨ ¬ noChangeOnWay rest x.story
    let passed (j : Nat) : Prop := ∃ x, x ∈ (s.pageAt j).placed ∧ holds x.2
    ((∀ j, j ∈ s.page.queue → passed j) →
      exec c s = .next { s with notices := rest, page := { s.page with bracketed := br, pickHeld := false } })
    ∧ ∀ (before later : List Nat) (k : Nat), s.page.queue = before ++ k :: later → (∀ j, j ∈ before → passed j) → k ∉ later →
      let p := s.pageAt k
      let out (x : Placement) : HoleResult := (s.story x.story).fit.outcome p.edition
      let runsOver := ∃ x, x ∈ p.placed ∧ x.2.mode = .refuse ∧ (out x.2).kind = .over
      let paired := ∃ pr i x, s.path.pair = some pr ∧ x ∈ p.placed ∧ pr.verdict = .accepted x.2.story i
      ¬ passed k →
      (runsOver → let u := s.putPage k { p with state := .returned, lastOutcome := .returned }
        exec c s = exec c (u.withPage { u.page with queue := before ++ later }))
      ∧ (¬ runsOver → paired → exec c s = .next { s with notices := rest, page := { s.page with bracketed := br, pickHeld := true } })
      ∧ (¬ runsOver → ¬ paired → (∀ x, x ∈ p.placed → (s.story x.2.story).fit.spec ≠ none) → s.set.tx = none → s.set.held = false →
        s.set.cancel = none →
        let sp (x : Placement) : FitSpec := (s.story x.story).fit.spec.getD ⟨0, 0, 0, 0, 0⟩
        let cut (x : Placement) : Bool := x.mode == .cut && (out x).kind == .over
        let sent (x : Placement) : Nat := if cut x then (out x).lines else (s.story x.story).fit.lines
        let offset (x : Placement) : Nat := if cut x then (out x).cut.getD 0 else 0
        let blocks (x : Placement) : List Nat := (s.story x.story).chain.take (s.story x.story).filled
        let captured (x : Placement) : AttemptRec :=
          { size := (sp x).size, leading := (sp x).leading, measure := (sp x).measure, indent := (sp x).indent
            lines := (s.story x.story).fit.lines, holeLines := (out x).lines, cut := cut x, cutOffset := offset x, linesSent := sent x
            blocks := blocks x, length := (s.story x.story).filled * 1024, locked := true, placeEndSent := false, written := false }
        let record (e : Nat × Placement) : SetRecord := let x := e.2
          ⟨e.1, x.story, x.column, x.span, (sp x).size, (sp x).leading, (sp x).indent, (sp x).measure, x.hole, sent x, cut x,
            if cut x then offset x else (s.story x.story).filled * 1024, blocks x⟩
        ∃ t, exec c s = .next t
          ∧ t.pageAt k = { p with
              state := .sending, placements := p.placed.map fun e => (e.1, { e.2 with attempt := some (captured e.2) }) }
          ∧ (∀ j, j ≠ k → t.pageAt j = s.pageAt j) ∧ t.page.queue = k :: (before ++ later)
          ∧ t.set.state = .sending ∧ t.set.tx = some (.pageOpen p.edition p.number p.placed.length s.clock.tod) ∧ t.set.stage = .opening
          ∧ t.set.attempt = some ⟨p.edition, p.number, p.placed.length, s.clock.tod, p.placed.map record⟩
          ∧ t.notices = rest ++ p.placed.map (fun e => .lock e.2.story) ∧ (∀ e, e ∈ p.placed → t.locked e.2.story = true)
          ∧ t = { s with
              notices := t.notices
              page := { s.page with
                pages := t.page.pages, queue := t.page.queue, bracketed := br, lockLeft := none, lockStarted := false, pickHeld := false }
              set := { s.set with state := .sending, spoiled := 0, attempt := t.set.attempt, stage := .opening, tx := t.set.tx } }))
  ∧ (∀ (i k : Nat) (a : AttemptRec) (rest : List Notice) (s : State), s.oldest isReport (.placeEnd i) rest → s.sendingPage = some k →
    let p := s.pageAt k
    let x := p.placement i
    x.attempt = some a →
    ∃ t, exec .placeEndReport s = .next t
      ∧ (t.pageAt k).placement i = { x with attempt := some { a with locked := false, placeEndSent := true } }
      ∧ (∀ j, j ≠ i → (t.pageAt k).placement j = p.placement j)
      ∧ (t.pageAt k).state = p.state ∧ t.page.queue = s.page.queue ∧ t.notices = rest ++ (if a.locked then [.lock x.story] else [])
      ∧ t.page.lockLeft = (if (t.pageAt k).placements.any (fun e => e.2.locked) then s.page.lockLeft else none) ∧ onlyPage s t k)
  ∧ (∀ (o : LinkOutcome) (k : Nat) (rest : List Notice) (s : State), s.oldest isReport (.outcome o) rest → s.sendingPage = some k →
    s.set.state ≠ .ready ∨ (∀ j, j ∈ s.page.queue → ∃ x, x ∈ (s.pageAt j).placed ∧ ((s.story x.2.story).fit.state ≠ .current
      ∨ x.2.story ∈ s.page.bracketed ∨ ¬ noChangeOnWay s.notices x.2.story)) →
    let p := s.pageAt k
    let again := p.attempts + 1 < s.page.attemptLimit
    let written := p.placements.any fun e => (e.2.attempt.map (·.written)).getD false
    let kept : PageState × Bool × Nat := if again then (.queued, false, p.attempts + 1) else (.failed, true, min 7 (p.attempts + 1))
    let (ended, new, leaves, attempts) : AttemptEnd × PageState × Bool × Nat := match o with
      | .set => (.set, if written then .stale else .set, true, p.attempts)
      | .refuse _ => (.refuse, kept)
      | .timeout => (.timeout, kept)
      | .underflow => (.underflow, kept)
      | .restart => (.restart, .queued, false, p.attempts)
      | .readFail => (.readFail, .failed, true, p.attempts)
    ∃ t, exec .attemptOutcome s = .next t ∧ (t.pageAt k).state = new ∧ (t.pageAt k).attempts = attempts ∧ (t.pageAt k).lastOutcome = ended
      ∧ (t.pageAt k).setTime = (if o = .set then s.clock.tod else p.setTime)
      ∧ t.page.queue = (if leaves then s.page.queue.filter (· ≠ k) else s.page.queue) ∧ t.page.lockLeft = none
      ∧ (∀ e, e ∈ (t.pageAt k).placements → e.2.attempt = none)
      ∧ t.notices = rest ++ ((p.placed.filter fun e => e.2.locked).map fun e => .lock e.2.story)
      ∧ (s.set.state ≠ .ready → t.page.pickHeld = s.page.pickHeld)
      ∧ onlyPage { s with page := { s.page with pickHeld := t.page.pickHeld } } t k)
  ∧ (∀ (o : LinkOutcome) (k : Nat) (later : List Nat) (rest : List Notice) (s : State), s.oldest isReport (.outcome o) rest →
    s.sendingPage = some k → s.page.queue = k :: later → (∀ j, j ∈ later → (s.pageAt j).state ≠ .sending) →
    (∃ r, o = .refuse r) ∨ o = .timeout → (s.pageAt k).attempts + 1 < s.page.attemptLimit →
    s.active = true → s.set.state = .ready → s.set.startDue = false → s.set.cancel = none → s.path.pair = none →
    (∀ i, .placeEnd i ∉ rest) → (∀ o', .outcome o' ∉ rest) →
    (∀ x, x ∈ (s.pageAt k).placed → (s.story x.2.story).fit.state = .current ∧ x.2.story ∉ s.page.bracketed
      ∧ noChangeOnWay rest x.2.story
      ∧ (x.2.mode = .refuse → (tget (fun _ => ({} : HoleResult)) (s.story x.2.story).fit.outcomes (s.pageAt k).edition).kind ≠ .over)) →
    ∃ t, exec .attemptOutcome s = .next t ∧ (t.pageAt k).state = .sending ∧ (t.pageAt k).attempts = (s.pageAt k).attempts + 1
      ∧ (t.pageAt k).lastOutcome = (if o = .timeout then .timeout else .refuse) ∧ (∀ j, j ≠ k → t.pageAt j = s.pageAt j)
      ∧ t.page.queue = k :: later.filter (· ≠ k)
      ∧ t.page.lockLeft = none ∧ t.set.state = .sending)
  ∧ (∀ s : State, (∀ n, s.page.lockLeft = some n → 1 < n) → exec .lockLimitExpiry s = .next s)
  ∧ (∀ (k n : Nat) (s : State), s.page.lockLeft = some n → n ≤ 1 → s.sendingPage = some k → (∀ o, .outcome o ∉ s.notices) →
    ∃ t, exec .lockLimitExpiry s = .next t ∧ (t.pageAt k).state = .queued ∧ (t.pageAt k).lastOutcome = .lockLimit
      ∧ (t.pageAt k).attempts = (s.pageAt k).attempts ∧ t.page.queue = s.page.queue ∧ t.page.lockLeft = none
      ∧ t.notices = s.notices ++ (((s.pageAt k).placed.filter fun x => x.2.locked).map fun x => .lock x.2.story) ++ [.cancel .lockLimit]
      ∧ onlyPage s t k)
  ∧ (∀ (n : Nat) (rest : List Notice) (s : State), s.oldest (fun | .retryReport _ => true | _ => false) (.retryReport n) rest →
    exec .retryReport s = .next (if s.locked n = true ∧ s.page.lockStarted = false
      then { s with notices := rest, page := { s.page with lockLeft := some s.page.lockLimit, lockStarted := true } }
      else { s with notices := rest }))
  ∧ (∀ (n e k i : Nat) (m : Notice) (rest : List Notice) (s : State),
    (∃ w : WriteNote, m = .pageWrite w ∧ w.story = n) ∨ (∃ blocks, m = .pageLength n blocks) →
    s.oldest (fun | .pageWrite _ => true | .pageLength _ _ => true | _ => false) m rest →
    (s.story n).placements = [(e, some (k, i))] → let p := s.pageAt k
    ∃ t, exec .pageWriteNotice s = .next t ∧ t.notices = rest ∧ onlyPage s t k ∧ t.page.queue = s.page.queue
      ∧ (p.state = .set → t.pageAt k = { p with state := .stale })
      ∧ (p.state = .sending → ∀ a, (p.placement i).attempt = some a → (t.pageAt k).state = .sending
          ∧ (t.pageAt k).placement i = { p.placement i with attempt := some { a with written := a.written || a.placeEndSent } })
      ∧ (p.state ≠ .set → p.state ≠ .sending → t.pageAt k = p))
  ∧ (∀ (n : Nat) (rest : List Notice) (s : State),
    s.oldest (fun | .pageOpening _ => true | .pageEnding _ _ => true | _ => false) (.pageOpening n) rest →
    exec .pageOpeningNotice s = .next { s with notices := rest, page := { s.page with bracketed := s.page.bracketed ++ [n] } })
  ∧ ∀ (n : Nat) (o : BracketEnd) (rest : List Notice) (s : State),
    s.oldest (fun | .pageOpening _ => true | .pageEnding _ _ => true | _ => false) (.pageEnding n o) rest →
    (s.story n).placements = [] ∨ s.set.state ≠ .ready →
    exec .pageEndingNotice s = .next { s with notices := rest, page := { s.page with bracketed := s.page.bracketed.filter (· ≠ n) } }

/-- R158: PAGESTAT; a key out of range is the key of no page (log 19). The placement count and the locks are counted over the page's placements,
whose story numbers are not 0. -/
def Obligations.PagestatReadsAPage : Prop :=
  ∀ (s : State) (v : Service), s.handed .pagestat v →
    let part := byteAt (v.word 1) 2
    (12 < part → exec .pagestatSlip s = .next (s.answered v 0 0 (result 0x13 1 0 0)))
    ∧ (part ≤ 12 → s.pageKeyed (byteAt (v.word 1) 0) (byteAt (v.word 1) 1) = none →
        exec .pagestatSlip s = .next (s.answered v 0 0 (result 0x10 0 0 0)))
    ∧ ∀ k, s.pageKeyed (byteAt (v.word 1) 0) (byteAt (v.word 1) 1) = some k →
      let p := s.pageAt k
      let x := p.placement (part - 1)
      let placed := p.placements.filter fun e => e.2.story != 0
      let locked := placed.filter fun e => match e.2.attempt with
        | some a => a.locked
        | none => false
      let state := match p.state with
        | .making => 1 | .queued => 2 | .sending => 3 | .set => 4 | .stale => 5 | .returned => 6 | .failed => 7
      let outcome := match p.lastOutcome with
        | .none => 0 | .set => 1 | .refuse => 2 | .timeout => 3 | .underflow => 4 | .lockLimit => 5 | .readFail => 6 | .withdrawn => 7
        | .returned => 8 | .restart => 9
      let place := if k ∈ s.page.queue then s.page.queue.idxOf k + 1 else 0
      let mode := match x.mode with
        | .refuse => 0 | .cut => 1
      let flags := match x.attempt with
        | some a => (if a.locked then 1 else 0) + (if a.placeEndSent then 2 else 0) + (if a.written then 4 else 0) + if a.cut then 8 else 0
        | none => 0
      let cutAt := match x.attempt with
        | some a => a.cutOffset
        | none => 0
      (part = 0 → exec .pagestatSlip s = .next (s.answered v (packNat p.setTime) (packBytes place outcome locked.length 0)
        (result 0x10 state placed.length p.attempts)))
      ∧ (1 ≤ part → part ≤ 12 → exec .pagestatSlip s = .next (s.answered v
        (packBytes (x.story % 256) (x.story / 256) x.column x.span) (packHalves x.hole cutAt)
        (result 0x10 (if x.story = 0 then 0 else 1) mode flags)))

/-! ### Chapter 10: the set link -/

/-- R167, R169, R173, R176: an OFFER unanswered for 1,000 ticks is sent again, and the fifth takes the link DOWN; an ACCEPT sets the rate and
makes the link READY, or is out of turn; HOLD and GO; a bad byte, and each bad frame: a length above 256, a wrong check, another kind or a length
that is not its kind's, a REFUSE reason out of range, a frame not complete in time. -/
def Obligations.TheSetLinkStartsAndFlows : Prop :=
  (∀ (n : Nat) (s : State), s.set.state = .starting → s.set.offerWait = some n →
    (n < 1000 → exec .offerTimeout s = .next s)
    ∧ (1000 ≤ n → s.set.offerCount < 5 → exec .offerTimeout s = .next { s with set := { s.set with
        tx := some (.offer s.set.workingMax), offered := s.set.workingMax, offerCount := s.set.offerCount + 1, offerWait := none } })
    ∧ (1000 ≤ n → 5 ≤ s.set.offerCount → exec .offerTimeout s = .next { s with
        notices := s.notices ++ [.fault ⟨.set, 1, s.set.offered, true, true⟩]
        set := { s.set with state := .down, offerWait := none } }))
  ∧ (∀ (c : Byte) (s : State), s.active = true → s.set.rx = [] →
    (s.set.state = .starting → exec (.accept (setFrameBytes 0x81 [c] false)) s = .next { s with
      notices := s.notices ++ [.ready]
      set := { s.set with
        rxTicks := 0, rate := if c = 0 then 1 else min c.toNat s.set.offered, offerWait := none, state := .ready, attempt := none
        cancel := none } })
    ∧ (s.set.state ≠ .starting → exec (.accept (setFrameBytes 0x81 [c] false)) s
      = .next { s with set := { s.set with rxTicks := 0, outOfTurn := min 65535 (s.set.outOfTurn + 1) } })
    ∧ exec (.badFrame (setFrameBytes 0x81 [c] true)) s
      = .next { s with set := { s.set with rxTicks := 0, badFrames := min 65535 (s.set.badFrames + 1) } }
    ∧ (c ≠ 0xA5 → c ≠ 0xC3 → c ≠ 0x3C → exec (.badFrame [c]) s
      = .next { s with set := { s.set with rxTicks := 0, badFrames := min 65535 (s.set.badFrames + 1) } }))
  ∧ (∀ (kind low high e p r : Byte) (payload : List Byte) (s : State), s.active = true → s.set.rx = [] →
    let bad : State := { s with set := { s.set with rxTicks := 0, badFrames := min 65535 (s.set.badFrames + 1) } }
    (256 < low.toNat + 256 * high.toNat → exec (.badFrame [0xA5, kind, low, high]) s = .next bad)
    ∧ (payload.length ≤ 256 → ¬ (kind = 0x81 ∧ payload.length = 1) → ¬ (kind = 0x82 ∧ payload.length = 2) →
        ¬ (kind = 0x83 ∧ payload.length = 3) → exec (.badFrame (setFrameBytes kind.toNat payload false)) s = .next bad)
    ∧ (payload.length ≤ 256 → exec (.badFrame (setFrameBytes kind.toNat payload true)) s = .next bad)
    ∧ (r.toNat = 0 ∨ 3 < r.toNat → exec (.badFrame (setFrameBytes 0x83 [e, p, r] false)) s = .next bad))
  ∧ (∀ s : State, s.active = true → s.set.rx = [] →
    let flows := s.set.state = .ready ∨ s.set.state = .sending ∨ s.set.state = .awaiting
    (flows → exec .hold s = .next { s with set := { s.set with rxTicks := 0, held := true } })
    ∧ (¬ flows → exec .hold s = .next { s with set := { s.set with rxTicks := 0 } }
        ∧ exec .go s = .next { s with set := { s.set with rxTicks := 0 } })
    ∧ (flows → s.set.attempt = none ∨ s.set.tx ≠ none → exec .go s = .next { s with set := { s.set with rxTicks := 0, held := false } })
    ∧ (∀ a, s.set.state = .sending → s.set.attempt = some a → s.set.tx = none → s.set.cancel = none → s.set.startDue = false →
        s.set.stage = .closing → exec .go s = .next { s with set := { s.set with
          rxTicks := 0, held := false, tx := some (.pageClose a.edition a.page) } }))
  ∧ ∀ s : State, exec .frameTimeout s = .next (if s.set.rx ≠ [] ∧ 100 ≤ s.set.rxTicks
      then { s with set := { s.set with rx := [], rxTicks := 0, badFrames := min 65535 (s.set.badFrames + 1) } } else s)

/-- R174 to R176: a SET or a REFUSE that answers the page awaited ends the attempt with its report, a REFUSE with its reason, and makes the link READY, the second CHECK in a row falls back;
an answer out of turn is counted, one with no attempt or no wait for it, and one that finds a cancel on its way (log 30) among them; the answer timeout; a cancel between frames and in a
TEXT frame, which ends with what the read-ahead holds (log 32), and as a spoiled one at READFAIL; the end of PAGE-CANCEL. -/
def Obligations.PagesAreAnsweredAndCancelled : Prop :=
  (∀ (e p : Byte) (a : Attempt) (s : State), s.active = true → s.set.rx = [] → s.set.attempt = some a → s.set.startDue = false →
    let awaited := s.set.state = .awaiting ∧ s.set.cancel = none ∧ (∀ r, .cancel r ∉ s.notices) ∧ a.edition = e.toNat ∧ a.page = p.toNat
    let wrong : State := { s with set := { s.set with rxTicks := 0, outOfTurn := min 65535 (s.set.outOfTurn + 1) } }
    let done (o : LinkOutcome) (checks : Nat) : State := { s with
      notices := s.notices ++ [.outcome o, .ready]
      set := { s.set with rxTicks := 0, state := .ready, attempt := none, cancel := none, checkCount := checks } }
    (awaited → exec (.setAnswer (setFrameBytes 0x82 [e, p] false)) s = .next (done .set 0))
    ∧ (¬ awaited → exec (.setAnswer (setFrameBytes 0x82 [e, p] false)) s = .next wrong)
    ∧ (¬ awaited → ∀ r : Byte, 1 ≤ r.toNat → r.toNat ≤ 3 → exec (.refuseAnswer (setFrameBytes 0x83 [e, p, r] false)) s = .next wrong)
    ∧ (awaited → ∀ r : Byte, 2 ≤ r.toNat → r.toNat ≤ 3 →
        exec (.refuseAnswer (setFrameBytes 0x83 [e, p, r] false)) s = .next (done (.refuse r.toNat) 0))
    ∧ (awaited → s.set.checkCount = 0 → exec (.refuseAnswer (setFrameBytes 0x83 [e, p, 1] false)) s = .next (done (.refuse 1) 1))
    ∧ (awaited → s.set.checkCount = 1 → s.set.tx = none → let lower := max 1 (s.set.rate - 1)
        ∃ t, exec (.refuseAnswer (setFrameBytes 0x83 [e, p, 1] false)) s = .next t
          ∧ t.set.state = .starting ∧ t.set.workingMax = lower ∧ t.set.rate = 0 ∧ t.set.checkCount = 0 ∧ t.set.attempt = none
          ∧ t.set.tx = some (.offer lower) ∧ t.set.offerCount = 1 ∧ t.set.held = false ∧ t.set.spoiled = 0
          ∧ t.notices = s.notices ++ [.outcome (.refuse 1), .fault ⟨.set, 2, lower, true, false⟩]
          ∧ t = { s with notices := t.notices, set := t.set, path := { s.path with orphan := t.path.orphan } }))
  ∧ (∀ (e p r : Byte) (s : State), s.active = true → s.set.rx = [] → s.set.attempt = none ∨ s.set.state ≠ .awaiting →
    let wrong : State := { s with set := { s.set with rxTicks := 0, outOfTurn := min 65535 (s.set.outOfTurn + 1) } }
    exec (.setAnswer (setFrameBytes 0x82 [e, p] false)) s = .next wrong
      ∧ (1 ≤ r.toNat → r.toNat ≤ 3 → exec (.refuseAnswer (setFrameBytes 0x83 [e, p, r] false)) s = .next wrong))
  ∧ (∀ (a : Attempt) (s : State), s.set.attempt = some a → s.set.state = .awaiting → s.set.cancel = none → (∀ r, .cancel r ∉ s.notices) →
    s.set.startDue = false →
    exec .answerTimeout s = .next (if s.set.answerLimit ≤ s.set.answerTime then { s with
      notices := s.notices ++ [.outcome .timeout, .ready]
      set := { s.set with state := .ready, attempt := none, cancel := none, checkCount := 0 } } else s))
  ∧ (∀ (r : CancelReason) (rest : List Notice) (s : State), s.oldest (fun | .cancel _ => true | _ => false) (.cancel r) rest →
    (∀ q, .cancel q ∉ rest) → let g : State := { s with notices := rest }
    (s.set.attempt = none → exec .cancel s = .next g)
    ∧ (∀ a, s.set.attempt = some a → s.set.cancel = none → s.set.held = false → s.set.startDue = false → ∃ t, exec .cancel s = .next t
        ∧ t.set.cancel = some r ∧ t.set.request = none ∧ t.set.checkCount = 0
        ∧ (s.set.tx = none → t.set.tx = some (.pageCancel a.edition a.page r))
        ∧ (∀ n payload pass, s.set.tx = some (.text n payload false) → s.set.stage = .sending pass →
            let all := payload ++ pass.ahead.flatten.take (n - payload.length)
            t.set.tx = some (if r = .readFail then .text n payload true else .text n all (decide (all.length < n))))
        ∧ t = { g with
            set := { s.set with cancel := t.set.cancel, tx := t.set.tx, request := none, checkCount := 0 }
            path := { s.path with orphan := t.path.orphan } }))
  ∧ ∀ (e p : Nat) (r : CancelReason) (s : State), s.active = true → s.set.tx = some (.pageCancel e p r) → s.set.startDue = false →
    exec .pageCancelSent s = .next { s with
      notices := s.notices ++ [.ready], set := { s.set with tx := none, state := .ready, attempt := none, cancel := none } }

/-- R169 to R172: what follows each frame that has gone; the sizing pass and an uncorrectable word in it; a TEXT frame that spoils for want of a
byte is read again from its first byte and sent again with its length, and the eighth is not: UNDERFLOW is reported and PAGE-CANCEL begins; an
uncorrectable word met in a TEXT frame spoils it without a count; with a text count of 0 PLACE-END follows PLACE directly, and otherwise it waits for
the last copy line of the sending pass; bytes that the transmitter takes free places of the read-ahead. When the transmitter takes them, that PLACE-END
so waits, that the reads of a text without a byte end with its PLACE-END, and that no read follows the eighth spoiled frame, is log 32. -/
def Obligations.FramesAndTextAreSent : Prop :=
  (∀ s : State, s.active = true → s.set.startDue = false →
    (∀ code, s.set.tx = some (.offer code) → s.set.state = .starting →
      exec .setFrameSent s = .next { s with set := { s.set with tx := none, offerWait := some 0 } })
    ∧ (∀ e p n time a r later, s.set.tx = some (.pageOpen e p n time) → s.set.cancel = none → s.set.attempt = some a → a.todo = r :: later →
        0 < r.textEnd → exec .setFrameSent s = .next { s with set := { s.set with
          tx := none, stage := .sizing 0 0, request := some (r.blocks.getD 0 0 * 1024) } })
    ∧ (∀ e p n time a r later, s.set.tx = some (.pageOpen e p n time) → s.set.cancel = none → s.set.attempt = some a → a.todo = r :: later →
        r.textEnd = 0 → s.set.held = false → s.set.state = .sending → exec .setFrameSent s = .next { s with set := { s.set with
          tx := some (.place r 0), stage := .sending ⟨0, true, 0, 0, 0, []⟩ } })
    ∧ (∀ e p a, s.set.tx = some (.pageClose e p) → s.set.cancel = none → s.set.attempt = some a →
        exec .setFrameSent s = .next { s with set := { s.set with
          tx := none, state := .awaiting, answerTime := 0, answerLimit := s.set.answerTimeout * 1000 } })
    ∧ (∀ i a r, s.set.tx = some (.placeEnd i) → s.set.cancel = none → s.set.held = false → s.set.state = .sending → s.set.attempt = some a →
        a.todo = [r] → exec .setFrameSent s = .next { s with
          notices := s.notices ++ [.placeEnd i]
          path := { s.path with orphan := s.path.orphan || (match s.path.port with | some (.set _) => true | _ => false) }
          set := { s.set with
            tx := some (.pageClose a.edition a.page), attempt := some { a with todo := [] }, stage := .closing, request := none } })
    ∧ (∀ r text a later pass, s.set.tx = some (.place r text) → s.set.cancel = none → s.set.held = false → s.set.state = .sending →
        s.set.attempt = some a → a.todo = r :: later → s.set.stage = .sending pass → pass.placed = true → pass.text = text → pass.sent = 0 →
        pass.ahead = [] → s.set.request ≠ none ∨ r.textEnd = 0 →
        exec .setFrameSent s = .next { s with set := { s.set with
          tx := some (if text = 0 then .placeEnd r.index else .text (min 256 text) [] false) } })
    ∧ (∀ n payload last pass a r later, s.set.tx = some (.text n (payload ++ [last]) false) → payload.length + 1 = n → s.set.cancel = none →
        s.set.held = false → s.set.state = .sending → s.set.attempt = some a → a.todo = r :: later → s.set.stage = .sending pass →
        pass.placed = true → 0 < pass.text → pass.text ≤ pass.sent + n →
        (pass.nextLine = (r.textEnd - 1) / 64 + 1 → exec .setFrameSent s = .next { s with set := { s.set with
          tx := some (.placeEnd r.index), stage := .sending { pass with sent := pass.sent + n, pos := last.1 + 1 } } })
        ∧ (0 < r.textEnd → pass.nextLine ≤ (r.textEnd - 1) / 64 → exec .setFrameSent s = .next { s with set := { s.set with
          tx := none, stage := .sending { pass with sent := pass.sent + n, pos := last.1 + 1 } } })))
  ∧ (∀ (a i count : Nat) (t : Attempt) (r : SetRecord) (later : List SetRecord) (s : State),
    s.path.port = some (.set a) → s.path.orphan = false → s.set.attempt = some t → t.todo = r :: later → s.set.stage = .sizing i count →
    let g : State := { s with path := { s.path with port := none } }
    let bytes := (List.range 16).flatMap fun j => wordBytes (s.wordAt (a + 4 * j))
    let text := count + ((List.range 64).filter fun j => decide (i * 64 + j < r.textEnd) && bytes.getD j 0 != 0).length
    ((∀ j, j < 16 → s.ecc (a + 4 * j) = .clean) → i < (r.textEnd - 1) / 64 → exec .setReadGrant s = .next { g with set := { s.set with
      stage := .sizing (i + 1) text, request := some (r.blocks.getD ((i + 1) / 16) 0 * 1024 + (i + 1) % 16 * 64) } })
    ∧ ((∀ j, j < 16 → s.ecc (a + 4 * j) = .clean) → (r.textEnd - 1) / 64 ≤ i → 0 < r.textEnd → s.set.tx = none → s.set.held = false →
        s.set.startDue = false → s.set.cancel = none → s.set.state = .sending → s.set.request = none →
        exec .setReadGrant s = .next { g with set := { s.set with
          stage := .sending ⟨text, true, 0, 0, 0, []⟩, tx := some (.place r text), request := some (r.blocks.getD 0 0 * 1024) } })
    ∧ ((∃ j, j < 16 ∧ s.ecc (a + 4 * j) = .uncorrected) → s.set.tx = none → s.set.held = false → s.set.startDue = false →
        (∀ q, .cancel q ∉ s.notices) → ∃ u, exec .setReadGrant s = .next u
        ∧ u.set = { s.set with
            cancel := some .readFail, tx := some (.pageCancel t.edition t.page .readFail), request := none, checkCount := 0 }
        ∧ .outcome .readFail ∈ u.notices
        ∧ (∀ j, j < 16 → s.ecc (a + 4 * j) = .uncorrected → .fault ⟨.store, 7, a + 4 * j, true, true⟩ ∈ u.notices)
        ∧ u = { g with set := u.set, notices := u.notices, path := { g.path with scrubQueue := u.path.scrubQueue } }))
  ∧ (∀ (a n : Nat) (payload : List (Nat × Byte)) (pass : SendPass) (t : Attempt) (s : State),
    s.path.port = some (.set a) → s.path.orphan = false → s.set.attempt = some t → s.set.stage = .sending pass →
    s.set.tx = some (.text n payload false) → (∃ j, j < 16 ∧ s.ecc (a + 4 * j) = .uncorrected) →
    ∃ u, exec .setReadGrant s = .next u
      ∧ u.set = { s.set with cancel := some .readFail, tx := some (.text n payload true), request := none, checkCount := 0 }
      ∧ .outcome .readFail ∈ u.notices
      ∧ u = { s with set := u.set, notices := u.notices,
                     path := { s.path with port := none, orphan := u.path.orphan, scrubQueue := u.path.scrubQueue } })
  ∧ (∀ (a i : Nat) (pass : SendPass) (t : Attempt) (r : SetRecord) (later : List SetRecord) (s : State),
    s.path.port = some (.set a) → s.path.orphan = false → s.set.attempt = some t → t.todo = r :: later → s.set.stage = .sending pass →
    (∀ j, j < 16 → s.ecc (a + 4 * j) = .clean) → 0 < r.textEnd → pass.nextLine = (r.textEnd - 1) / 64 → pass.placed = true →
    pass.text = pass.sent → (∀ j, j < 64 → s.byte (a + j) = 0 ∨ r.textEnd ≤ pass.nextLine * 64 + j) → i = r.index →
    s.set.tx = none → s.set.held = false → s.set.startDue = false → s.set.cancel = none → s.set.state = .sending →
    exec .setReadGrant s = .next { s with
      path := { s.path with port := none }
      set := { s.set with tx := some (.placeEnd i), stage := .sending { pass with nextLine := pass.nextLine + 1 } } })
  ∧ (∀ (w : Bool) (n m : Nat) (payload line : List (Nat × Byte)) (more : List (List (Nat × Byte))) (pass : SendPass) (t : Attempt)
      (r : SetRecord) (later : List SetRecord) (s : State),
    s.set.tx = some (.text n payload false) → s.set.stage = .sending pass → s.set.attempt = some t → t.todo = r :: later →
    pass.ahead = line :: more → 0 < m → m ≤ line.length → payload.length + m ≤ n → s.path.pair = none → s.path.port = some .pass →
    (m < line.length → s.set.request ≠ none → exec (.arbiterDecision w ⟨[], m⟩) s = .next { s with set := { s.set with
      tx := some (.text n (payload ++ line.take m) false), stage := .sending { pass with ahead := line.drop m :: more } } })
    ∧ (m = line.length → more.length = 1 → (∀ l, l ∈ more → l ≠ []) → s.set.request = none → s.set.cancel = none → 0 < r.textEnd →
      pass.nextLine ≤ (r.textEnd - 1) / 64 → exec (.arbiterDecision w ⟨[], m⟩) s = .next { s with set := { s.set with
        tx := some (.text n (payload ++ line) false), stage := .sending { pass with ahead := more }
        request := some (r.blocks.getD (pass.nextLine / 16) 0 * 1024 + pass.nextLine % 16 * 64) } }))
  ∧ (∀ (n : Nat) (payload : List (Nat × Byte)) (pass : SendPass) (a : Attempt) (r : SetRecord) (later : List SetRecord) (s : State),
    s.active = true → s.set.startDue = false → s.set.tx = some (.text n payload true) → s.set.stage = .sending pass →
    s.set.attempt = some a → a.todo = r :: later →
    (s.set.spoiled < 8 → s.set.cancel = none → s.set.held = false → s.set.state = .sending → s.set.request ≠ none → pass.placed = true →
      0 < n → n = min 256 (pass.text - pass.sent) →
      exec .setFrameSent s = .next { s with set := { s.set with tx := some (.text n [] false) } })
    ∧ (s.set.spoiled < 8 → s.set.cancel = none → s.set.held = true → exec .setFrameSent s = .next { s with set := { s.set with tx := none } })
    ∧ (8 ≤ s.set.spoiled → s.set.cancel = none → (∀ q, .cancel q ∉ s.notices) → ∃ t, exec .setFrameSent s = .next t
      ∧ t.set = { s.set with
          cancel := some .underflow, request := none, checkCount := 0
          tx := if s.set.held then none else some (.pageCancel a.edition a.page .underflow) }
      ∧ t.notices = s.notices ++ [.outcome .underflow]
      ∧ t = { s with set := t.set, notices := t.notices, path := { s.path with orphan := t.path.orphan } })
    ∧ (∀ q, s.set.cancel = some q → (∀ q', .cancel q' ∉ s.notices) → s.set.held = false →
      exec .setFrameSent s = .next { s with set := { s.set with tx := some (.pageCancel a.edition a.page q) } }))
  ∧ ∀ (n : Nat) (payload : List (Nat × Byte)) (pass : SendPass) (a : Attempt) (r : SetRecord) (later : List SetRecord) (s : State),
    s.set.tx = some (.text n payload false) → s.set.stage = .sending pass → s.set.cancel = none →
    s.set.attempt = some a → a.todo = r :: later → 0 < r.textEnd → (∀ x, s.path.port ≠ some (.set x)) →
    let all := payload ++ pass.ahead.flatten
    all.length < n →
    let again := match all with
      | b :: _ => b.1 / 64
      | [] => pass.nextLine
    again ≤ (r.textEnd - 1) / 64 →
    exec .textFrameSpoiled s = .next { s with set := { s.set with
      tx := some (.text n all true), spoiled := s.set.spoiled + 1, spoiledTotal := min 65535 (s.set.spoiledTotal + 1)
      stage := .sending { pass with ahead := [], nextLine := again }
      request := if s.set.spoiled + 1 < 8 then some (r.blocks.getD (again / 16) 0 * 1024 + again % 16 * 64) else none } }

/-- R177: SETSTAT. -/
def Obligations.SetstatReadsTheSetLink : Prop :=
  ∀ (s : State) (v : Service), s.handed .setstat v →
    let clear := byteAt (v.word 1) 0
    let l := s.set
    let state := match l.state with
      | .down => 0 | .starting => 1 | .ready => 2 | .sending => 3 | .awaiting => 4
    let flags := (if l.held then 1 else 0) + (if l.checkCount = 1 then 2 else 0) + 16 * l.offerCount
    if 1 < clear then exec .setstatSlip s = .next (s.answered v 0 0 (result 0x13 1 0 0))
    else if clear = 1 ∧ s.slip.privMask.getLsbD v.agent = false then exec .setstatSlip s = .next (s.answered v 0 0 (result 0x16 0 0 0))
    else exec .setstatSlip s = .next (State.answered
      (if clear = 1 then { s with set := { l with badFrames := 0, outOfTurn := 0, spoiledTotal := 0 } } else s) v
      (packHalves l.badFrames l.outOfTurn) (packBytes (l.spoiledTotal % 256) (l.spoiledTotal / 256) l.spoiled flags)
      (result 0x10 state l.rate l.workingMax))
end

