-- ==== Sys2Proof/Laws/State.lean ====
section
/-! SUPPORT. One lemma per field per update of the state, each true by rfl, so that no later proof unfolds a record update. -/

namespace Sys2Proof.Machine

@[simp] theorem State.withPending_pending (s : State) (v : List Instr) : (s.withPending v).pending = v := rfl
@[simp] theorem State.withPending_notices (s : State) (v : List Instr) : (s.withPending v).notices = s.notices := rfl
@[simp] theorem State.withPending_mem (s : State) (v : List Instr) : (s.withPending v).mem = s.mem := rfl
@[simp] theorem State.withPending_flaws (s : State) (v : List Instr) : (s.withPending v).flaws = s.flaws := rfl
@[simp] theorem State.withPending_path (s : State) (v : List Instr) : (s.withPending v).path = s.path := rfl
@[simp] theorem State.withPending_dir (s : State) (v : List Instr) : (s.withPending v).dir = s.dir := rfl
@[simp] theorem State.withPending_slip (s : State) (v : List Instr) : (s.withPending v).slip = s.slip := rfl
@[simp] theorem State.withPending_clock (s : State) (v : List Instr) : (s.withPending v).clock = s.clock := rfl
@[simp] theorem State.withPending_desk (s : State) (v : List Instr) : (s.withPending v).desk = s.desk := rfl
@[simp] theorem State.withPending_fit (s : State) (v : List Instr) : (s.withPending v).fit = s.fit := rfl
@[simp] theorem State.withPending_screen (s : State) (v : List Instr) : (s.withPending v).screen = s.screen := rfl
@[simp] theorem State.withPending_links (s : State) (v : List Instr) : (s.withPending v).links = s.links := rfl
@[simp] theorem State.withPending_intake (s : State) (v : List Instr) : (s.withPending v).intake = s.intake := rfl
@[simp] theorem State.withPending_page (s : State) (v : List Instr) : (s.withPending v).page = s.page := rfl
@[simp] theorem State.withPending_set (s : State) (v : List Instr) : (s.withPending v).set = s.set := rfl
@[simp] theorem State.withPending_fault (s : State) (v : List Instr) : (s.withPending v).fault = s.fault := rfl
@[simp] theorem State.withPending_setup (s : State) (v : List Instr) : (s.withPending v).setup = s.setup := rfl
@[simp] theorem State.withPending_withPending (s : State) (u v : List Instr) : (s.withPending u).withPending v = s.withPending v := rfl

@[simp] theorem State.withNotices_pending (s : State) (v : List Notice) : (s.withNotices v).pending = s.pending := rfl
@[simp] theorem State.withNotices_notices (s : State) (v : List Notice) : (s.withNotices v).notices = v := rfl
@[simp] theorem State.withNotices_mem (s : State) (v : List Notice) : (s.withNotices v).mem = s.mem := rfl
@[simp] theorem State.withNotices_flaws (s : State) (v : List Notice) : (s.withNotices v).flaws = s.flaws := rfl
@[simp] theorem State.withNotices_path (s : State) (v : List Notice) : (s.withNotices v).path = s.path := rfl
@[simp] theorem State.withNotices_dir (s : State) (v : List Notice) : (s.withNotices v).dir = s.dir := rfl
@[simp] theorem State.withNotices_slip (s : State) (v : List Notice) : (s.withNotices v).slip = s.slip := rfl
@[simp] theorem State.withNotices_clock (s : State) (v : List Notice) : (s.withNotices v).clock = s.clock := rfl
@[simp] theorem State.withNotices_desk (s : State) (v : List Notice) : (s.withNotices v).desk = s.desk := rfl
@[simp] theorem State.withNotices_fit (s : State) (v : List Notice) : (s.withNotices v).fit = s.fit := rfl
@[simp] theorem State.withNotices_screen (s : State) (v : List Notice) : (s.withNotices v).screen = s.screen := rfl
@[simp] theorem State.withNotices_links (s : State) (v : List Notice) : (s.withNotices v).links = s.links := rfl
@[simp] theorem State.withNotices_intake (s : State) (v : List Notice) : (s.withNotices v).intake = s.intake := rfl
@[simp] theorem State.withNotices_page (s : State) (v : List Notice) : (s.withNotices v).page = s.page := rfl
@[simp] theorem State.withNotices_set (s : State) (v : List Notice) : (s.withNotices v).set = s.set := rfl
@[simp] theorem State.withNotices_fault (s : State) (v : List Notice) : (s.withNotices v).fault = s.fault := rfl
@[simp] theorem State.withNotices_setup (s : State) (v : List Notice) : (s.withNotices v).setup = s.setup := rfl
@[simp] theorem State.withNotices_withNotices (s : State) (u v : List Notice) : (s.withNotices u).withNotices v = s.withNotices v := rfl

@[simp] theorem State.withMem_pending (s : State) (v : List Host.Cell) : (s.withMem v).pending = s.pending := rfl
@[simp] theorem State.withMem_notices (s : State) (v : List Host.Cell) : (s.withMem v).notices = s.notices := rfl
@[simp] theorem State.withMem_mem (s : State) (v : List Host.Cell) : (s.withMem v).mem = v := rfl
@[simp] theorem State.withMem_flaws (s : State) (v : List Host.Cell) : (s.withMem v).flaws = s.flaws := rfl
@[simp] theorem State.withMem_path (s : State) (v : List Host.Cell) : (s.withMem v).path = s.path := rfl
@[simp] theorem State.withMem_dir (s : State) (v : List Host.Cell) : (s.withMem v).dir = s.dir := rfl
@[simp] theorem State.withMem_slip (s : State) (v : List Host.Cell) : (s.withMem v).slip = s.slip := rfl
@[simp] theorem State.withMem_clock (s : State) (v : List Host.Cell) : (s.withMem v).clock = s.clock := rfl
@[simp] theorem State.withMem_desk (s : State) (v : List Host.Cell) : (s.withMem v).desk = s.desk := rfl
@[simp] theorem State.withMem_fit (s : State) (v : List Host.Cell) : (s.withMem v).fit = s.fit := rfl
@[simp] theorem State.withMem_screen (s : State) (v : List Host.Cell) : (s.withMem v).screen = s.screen := rfl
@[simp] theorem State.withMem_links (s : State) (v : List Host.Cell) : (s.withMem v).links = s.links := rfl
@[simp] theorem State.withMem_intake (s : State) (v : List Host.Cell) : (s.withMem v).intake = s.intake := rfl
@[simp] theorem State.withMem_page (s : State) (v : List Host.Cell) : (s.withMem v).page = s.page := rfl
@[simp] theorem State.withMem_set (s : State) (v : List Host.Cell) : (s.withMem v).set = s.set := rfl
@[simp] theorem State.withMem_fault (s : State) (v : List Host.Cell) : (s.withMem v).fault = s.fault := rfl
@[simp] theorem State.withMem_setup (s : State) (v : List Host.Cell) : (s.withMem v).setup = s.setup := rfl
@[simp] theorem State.withMem_withMem (s : State) (u v : List Host.Cell) : (s.withMem u).withMem v = s.withMem v := rfl

@[simp] theorem State.withFlaws_pending (s : State) (v : Table Ecc) : (s.withFlaws v).pending = s.pending := rfl
@[simp] theorem State.withFlaws_notices (s : State) (v : Table Ecc) : (s.withFlaws v).notices = s.notices := rfl
@[simp] theorem State.withFlaws_mem (s : State) (v : Table Ecc) : (s.withFlaws v).mem = s.mem := rfl
@[simp] theorem State.withFlaws_flaws (s : State) (v : Table Ecc) : (s.withFlaws v).flaws = v := rfl
@[simp] theorem State.withFlaws_path (s : State) (v : Table Ecc) : (s.withFlaws v).path = s.path := rfl
@[simp] theorem State.withFlaws_dir (s : State) (v : Table Ecc) : (s.withFlaws v).dir = s.dir := rfl
@[simp] theorem State.withFlaws_slip (s : State) (v : Table Ecc) : (s.withFlaws v).slip = s.slip := rfl
@[simp] theorem State.withFlaws_clock (s : State) (v : Table Ecc) : (s.withFlaws v).clock = s.clock := rfl
@[simp] theorem State.withFlaws_desk (s : State) (v : Table Ecc) : (s.withFlaws v).desk = s.desk := rfl
@[simp] theorem State.withFlaws_fit (s : State) (v : Table Ecc) : (s.withFlaws v).fit = s.fit := rfl
@[simp] theorem State.withFlaws_screen (s : State) (v : Table Ecc) : (s.withFlaws v).screen = s.screen := rfl
@[simp] theorem State.withFlaws_links (s : State) (v : Table Ecc) : (s.withFlaws v).links = s.links := rfl
@[simp] theorem State.withFlaws_intake (s : State) (v : Table Ecc) : (s.withFlaws v).intake = s.intake := rfl
@[simp] theorem State.withFlaws_page (s : State) (v : Table Ecc) : (s.withFlaws v).page = s.page := rfl
@[simp] theorem State.withFlaws_set (s : State) (v : Table Ecc) : (s.withFlaws v).set = s.set := rfl
@[simp] theorem State.withFlaws_fault (s : State) (v : Table Ecc) : (s.withFlaws v).fault = s.fault := rfl
@[simp] theorem State.withFlaws_setup (s : State) (v : Table Ecc) : (s.withFlaws v).setup = s.setup := rfl
@[simp] theorem State.withFlaws_withFlaws (s : State) (u v : Table Ecc) : (s.withFlaws u).withFlaws v = s.withFlaws v := rfl

@[simp] theorem State.withPath_pending (s : State) (v : PathUnit) : (s.withPath v).pending = s.pending := rfl
@[simp] theorem State.withPath_notices (s : State) (v : PathUnit) : (s.withPath v).notices = s.notices := rfl
@[simp] theorem State.withPath_mem (s : State) (v : PathUnit) : (s.withPath v).mem = s.mem := rfl
@[simp] theorem State.withPath_flaws (s : State) (v : PathUnit) : (s.withPath v).flaws = s.flaws := rfl
@[simp] theorem State.withPath_path (s : State) (v : PathUnit) : (s.withPath v).path = v := rfl
@[simp] theorem State.withPath_dir (s : State) (v : PathUnit) : (s.withPath v).dir = s.dir := rfl
@[simp] theorem State.withPath_slip (s : State) (v : PathUnit) : (s.withPath v).slip = s.slip := rfl
@[simp] theorem State.withPath_clock (s : State) (v : PathUnit) : (s.withPath v).clock = s.clock := rfl
@[simp] theorem State.withPath_desk (s : State) (v : PathUnit) : (s.withPath v).desk = s.desk := rfl
@[simp] theorem State.withPath_fit (s : State) (v : PathUnit) : (s.withPath v).fit = s.fit := rfl
@[simp] theorem State.withPath_screen (s : State) (v : PathUnit) : (s.withPath v).screen = s.screen := rfl
@[simp] theorem State.withPath_links (s : State) (v : PathUnit) : (s.withPath v).links = s.links := rfl
@[simp] theorem State.withPath_intake (s : State) (v : PathUnit) : (s.withPath v).intake = s.intake := rfl
@[simp] theorem State.withPath_page (s : State) (v : PathUnit) : (s.withPath v).page = s.page := rfl
@[simp] theorem State.withPath_set (s : State) (v : PathUnit) : (s.withPath v).set = s.set := rfl
@[simp] theorem State.withPath_fault (s : State) (v : PathUnit) : (s.withPath v).fault = s.fault := rfl
@[simp] theorem State.withPath_setup (s : State) (v : PathUnit) : (s.withPath v).setup = s.setup := rfl
@[simp] theorem State.withPath_withPath (s : State) (u v : PathUnit) : (s.withPath u).withPath v = s.withPath v := rfl

@[simp] theorem State.withDir_pending (s : State) (v : Directory) : (s.withDir v).pending = s.pending := rfl
@[simp] theorem State.withDir_notices (s : State) (v : Directory) : (s.withDir v).notices = s.notices := rfl
@[simp] theorem State.withDir_mem (s : State) (v : Directory) : (s.withDir v).mem = s.mem := rfl
@[simp] theorem State.withDir_flaws (s : State) (v : Directory) : (s.withDir v).flaws = s.flaws := rfl
@[simp] theorem State.withDir_path (s : State) (v : Directory) : (s.withDir v).path = s.path := rfl
@[simp] theorem State.withDir_dir (s : State) (v : Directory) : (s.withDir v).dir = v := rfl
@[simp] theorem State.withDir_slip (s : State) (v : Directory) : (s.withDir v).slip = s.slip := rfl
@[simp] theorem State.withDir_clock (s : State) (v : Directory) : (s.withDir v).clock = s.clock := rfl
@[simp] theorem State.withDir_desk (s : State) (v : Directory) : (s.withDir v).desk = s.desk := rfl
@[simp] theorem State.withDir_fit (s : State) (v : Directory) : (s.withDir v).fit = s.fit := rfl
@[simp] theorem State.withDir_screen (s : State) (v : Directory) : (s.withDir v).screen = s.screen := rfl
@[simp] theorem State.withDir_links (s : State) (v : Directory) : (s.withDir v).links = s.links := rfl
@[simp] theorem State.withDir_intake (s : State) (v : Directory) : (s.withDir v).intake = s.intake := rfl
@[simp] theorem State.withDir_page (s : State) (v : Directory) : (s.withDir v).page = s.page := rfl
@[simp] theorem State.withDir_set (s : State) (v : Directory) : (s.withDir v).set = s.set := rfl
@[simp] theorem State.withDir_fault (s : State) (v : Directory) : (s.withDir v).fault = s.fault := rfl
@[simp] theorem State.withDir_setup (s : State) (v : Directory) : (s.withDir v).setup = s.setup := rfl
@[simp] theorem State.withDir_withDir (s : State) (u v : Directory) : (s.withDir u).withDir v = s.withDir v := rfl

@[simp] theorem State.withSlip_pending (s : State) (v : SlipUnit) : (s.withSlip v).pending = s.pending := rfl
@[simp] theorem State.withSlip_notices (s : State) (v : SlipUnit) : (s.withSlip v).notices = s.notices := rfl
@[simp] theorem State.withSlip_mem (s : State) (v : SlipUnit) : (s.withSlip v).mem = s.mem := rfl
@[simp] theorem State.withSlip_flaws (s : State) (v : SlipUnit) : (s.withSlip v).flaws = s.flaws := rfl
@[simp] theorem State.withSlip_path (s : State) (v : SlipUnit) : (s.withSlip v).path = s.path := rfl
@[simp] theorem State.withSlip_dir (s : State) (v : SlipUnit) : (s.withSlip v).dir = s.dir := rfl
@[simp] theorem State.withSlip_slip (s : State) (v : SlipUnit) : (s.withSlip v).slip = v := rfl
@[simp] theorem State.withSlip_clock (s : State) (v : SlipUnit) : (s.withSlip v).clock = s.clock := rfl
@[simp] theorem State.withSlip_desk (s : State) (v : SlipUnit) : (s.withSlip v).desk = s.desk := rfl
@[simp] theorem State.withSlip_fit (s : State) (v : SlipUnit) : (s.withSlip v).fit = s.fit := rfl
@[simp] theorem State.withSlip_screen (s : State) (v : SlipUnit) : (s.withSlip v).screen = s.screen := rfl
@[simp] theorem State.withSlip_links (s : State) (v : SlipUnit) : (s.withSlip v).links = s.links := rfl
@[simp] theorem State.withSlip_intake (s : State) (v : SlipUnit) : (s.withSlip v).intake = s.intake := rfl
@[simp] theorem State.withSlip_page (s : State) (v : SlipUnit) : (s.withSlip v).page = s.page := rfl
@[simp] theorem State.withSlip_set (s : State) (v : SlipUnit) : (s.withSlip v).set = s.set := rfl
@[simp] theorem State.withSlip_fault (s : State) (v : SlipUnit) : (s.withSlip v).fault = s.fault := rfl
@[simp] theorem State.withSlip_setup (s : State) (v : SlipUnit) : (s.withSlip v).setup = s.setup := rfl
@[simp] theorem State.withSlip_withSlip (s : State) (u v : SlipUnit) : (s.withSlip u).withSlip v = s.withSlip v := rfl

@[simp] theorem State.withClock_pending (s : State) (v : ClockUnit) : (s.withClock v).pending = s.pending := rfl
@[simp] theorem State.withClock_notices (s : State) (v : ClockUnit) : (s.withClock v).notices = s.notices := rfl
@[simp] theorem State.withClock_mem (s : State) (v : ClockUnit) : (s.withClock v).mem = s.mem := rfl
@[simp] theorem State.withClock_flaws (s : State) (v : ClockUnit) : (s.withClock v).flaws = s.flaws := rfl
@[simp] theorem State.withClock_path (s : State) (v : ClockUnit) : (s.withClock v).path = s.path := rfl
@[simp] theorem State.withClock_dir (s : State) (v : ClockUnit) : (s.withClock v).dir = s.dir := rfl
@[simp] theorem State.withClock_slip (s : State) (v : ClockUnit) : (s.withClock v).slip = s.slip := rfl
@[simp] theorem State.withClock_clock (s : State) (v : ClockUnit) : (s.withClock v).clock = v := rfl
@[simp] theorem State.withClock_desk (s : State) (v : ClockUnit) : (s.withClock v).desk = s.desk := rfl
@[simp] theorem State.withClock_fit (s : State) (v : ClockUnit) : (s.withClock v).fit = s.fit := rfl
@[simp] theorem State.withClock_screen (s : State) (v : ClockUnit) : (s.withClock v).screen = s.screen := rfl
@[simp] theorem State.withClock_links (s : State) (v : ClockUnit) : (s.withClock v).links = s.links := rfl
@[simp] theorem State.withClock_intake (s : State) (v : ClockUnit) : (s.withClock v).intake = s.intake := rfl
@[simp] theorem State.withClock_page (s : State) (v : ClockUnit) : (s.withClock v).page = s.page := rfl
@[simp] theorem State.withClock_set (s : State) (v : ClockUnit) : (s.withClock v).set = s.set := rfl
@[simp] theorem State.withClock_fault (s : State) (v : ClockUnit) : (s.withClock v).fault = s.fault := rfl
@[simp] theorem State.withClock_setup (s : State) (v : ClockUnit) : (s.withClock v).setup = s.setup := rfl
@[simp] theorem State.withClock_withClock (s : State) (u v : ClockUnit) : (s.withClock u).withClock v = s.withClock v := rfl

@[simp] theorem State.withDesk_pending (s : State) (v : DeskUnit) : (s.withDesk v).pending = s.pending := rfl
@[simp] theorem State.withDesk_notices (s : State) (v : DeskUnit) : (s.withDesk v).notices = s.notices := rfl
@[simp] theorem State.withDesk_mem (s : State) (v : DeskUnit) : (s.withDesk v).mem = s.mem := rfl
@[simp] theorem State.withDesk_flaws (s : State) (v : DeskUnit) : (s.withDesk v).flaws = s.flaws := rfl
@[simp] theorem State.withDesk_path (s : State) (v : DeskUnit) : (s.withDesk v).path = s.path := rfl
@[simp] theorem State.withDesk_dir (s : State) (v : DeskUnit) : (s.withDesk v).dir = s.dir := rfl
@[simp] theorem State.withDesk_slip (s : State) (v : DeskUnit) : (s.withDesk v).slip = s.slip := rfl
@[simp] theorem State.withDesk_clock (s : State) (v : DeskUnit) : (s.withDesk v).clock = s.clock := rfl
@[simp] theorem State.withDesk_desk (s : State) (v : DeskUnit) : (s.withDesk v).desk = v := rfl
@[simp] theorem State.withDesk_fit (s : State) (v : DeskUnit) : (s.withDesk v).fit = s.fit := rfl
@[simp] theorem State.withDesk_screen (s : State) (v : DeskUnit) : (s.withDesk v).screen = s.screen := rfl
@[simp] theorem State.withDesk_links (s : State) (v : DeskUnit) : (s.withDesk v).links = s.links := rfl
@[simp] theorem State.withDesk_intake (s : State) (v : DeskUnit) : (s.withDesk v).intake = s.intake := rfl
@[simp] theorem State.withDesk_page (s : State) (v : DeskUnit) : (s.withDesk v).page = s.page := rfl
@[simp] theorem State.withDesk_set (s : State) (v : DeskUnit) : (s.withDesk v).set = s.set := rfl
@[simp] theorem State.withDesk_fault (s : State) (v : DeskUnit) : (s.withDesk v).fault = s.fault := rfl
@[simp] theorem State.withDesk_setup (s : State) (v : DeskUnit) : (s.withDesk v).setup = s.setup := rfl
@[simp] theorem State.withDesk_withDesk (s : State) (u v : DeskUnit) : (s.withDesk u).withDesk v = s.withDesk v := rfl

@[simp] theorem State.withFit_pending (s : State) (v : FitUnit) : (s.withFit v).pending = s.pending := rfl
@[simp] theorem State.withFit_notices (s : State) (v : FitUnit) : (s.withFit v).notices = s.notices := rfl
@[simp] theorem State.withFit_mem (s : State) (v : FitUnit) : (s.withFit v).mem = s.mem := rfl
@[simp] theorem State.withFit_flaws (s : State) (v : FitUnit) : (s.withFit v).flaws = s.flaws := rfl
@[simp] theorem State.withFit_path (s : State) (v : FitUnit) : (s.withFit v).path = s.path := rfl
@[simp] theorem State.withFit_dir (s : State) (v : FitUnit) : (s.withFit v).dir = s.dir := rfl
@[simp] theorem State.withFit_slip (s : State) (v : FitUnit) : (s.withFit v).slip = s.slip := rfl
@[simp] theorem State.withFit_clock (s : State) (v : FitUnit) : (s.withFit v).clock = s.clock := rfl
@[simp] theorem State.withFit_desk (s : State) (v : FitUnit) : (s.withFit v).desk = s.desk := rfl
@[simp] theorem State.withFit_fit (s : State) (v : FitUnit) : (s.withFit v).fit = v := rfl
@[simp] theorem State.withFit_screen (s : State) (v : FitUnit) : (s.withFit v).screen = s.screen := rfl
@[simp] theorem State.withFit_links (s : State) (v : FitUnit) : (s.withFit v).links = s.links := rfl
@[simp] theorem State.withFit_intake (s : State) (v : FitUnit) : (s.withFit v).intake = s.intake := rfl
@[simp] theorem State.withFit_page (s : State) (v : FitUnit) : (s.withFit v).page = s.page := rfl
@[simp] theorem State.withFit_set (s : State) (v : FitUnit) : (s.withFit v).set = s.set := rfl
@[simp] theorem State.withFit_fault (s : State) (v : FitUnit) : (s.withFit v).fault = s.fault := rfl
@[simp] theorem State.withFit_setup (s : State) (v : FitUnit) : (s.withFit v).setup = s.setup := rfl
@[simp] theorem State.withFit_withFit (s : State) (u v : FitUnit) : (s.withFit u).withFit v = s.withFit v := rfl

@[simp] theorem State.withScreen_pending (s : State) (v : ScreenUnit) : (s.withScreen v).pending = s.pending := rfl
@[simp] theorem State.withScreen_notices (s : State) (v : ScreenUnit) : (s.withScreen v).notices = s.notices := rfl
@[simp] theorem State.withScreen_mem (s : State) (v : ScreenUnit) : (s.withScreen v).mem = s.mem := rfl
@[simp] theorem State.withScreen_flaws (s : State) (v : ScreenUnit) : (s.withScreen v).flaws = s.flaws := rfl
@[simp] theorem State.withScreen_path (s : State) (v : ScreenUnit) : (s.withScreen v).path = s.path := rfl
@[simp] theorem State.withScreen_dir (s : State) (v : ScreenUnit) : (s.withScreen v).dir = s.dir := rfl
@[simp] theorem State.withScreen_slip (s : State) (v : ScreenUnit) : (s.withScreen v).slip = s.slip := rfl
@[simp] theorem State.withScreen_clock (s : State) (v : ScreenUnit) : (s.withScreen v).clock = s.clock := rfl
@[simp] theorem State.withScreen_desk (s : State) (v : ScreenUnit) : (s.withScreen v).desk = s.desk := rfl
@[simp] theorem State.withScreen_fit (s : State) (v : ScreenUnit) : (s.withScreen v).fit = s.fit := rfl
@[simp] theorem State.withScreen_screen (s : State) (v : ScreenUnit) : (s.withScreen v).screen = v := rfl
@[simp] theorem State.withScreen_links (s : State) (v : ScreenUnit) : (s.withScreen v).links = s.links := rfl
@[simp] theorem State.withScreen_intake (s : State) (v : ScreenUnit) : (s.withScreen v).intake = s.intake := rfl
@[simp] theorem State.withScreen_page (s : State) (v : ScreenUnit) : (s.withScreen v).page = s.page := rfl
@[simp] theorem State.withScreen_set (s : State) (v : ScreenUnit) : (s.withScreen v).set = s.set := rfl
@[simp] theorem State.withScreen_fault (s : State) (v : ScreenUnit) : (s.withScreen v).fault = s.fault := rfl
@[simp] theorem State.withScreen_setup (s : State) (v : ScreenUnit) : (s.withScreen v).setup = s.setup := rfl
@[simp] theorem State.withScreen_withScreen (s : State) (u v : ScreenUnit) : (s.withScreen u).withScreen v = s.withScreen v := rfl

@[simp] theorem State.withLinks_pending (s : State) (v : LinkUnit) : (s.withLinks v).pending = s.pending := rfl
@[simp] theorem State.withLinks_notices (s : State) (v : LinkUnit) : (s.withLinks v).notices = s.notices := rfl
@[simp] theorem State.withLinks_mem (s : State) (v : LinkUnit) : (s.withLinks v).mem = s.mem := rfl
@[simp] theorem State.withLinks_flaws (s : State) (v : LinkUnit) : (s.withLinks v).flaws = s.flaws := rfl
@[simp] theorem State.withLinks_path (s : State) (v : LinkUnit) : (s.withLinks v).path = s.path := rfl
@[simp] theorem State.withLinks_dir (s : State) (v : LinkUnit) : (s.withLinks v).dir = s.dir := rfl
@[simp] theorem State.withLinks_slip (s : State) (v : LinkUnit) : (s.withLinks v).slip = s.slip := rfl
@[simp] theorem State.withLinks_clock (s : State) (v : LinkUnit) : (s.withLinks v).clock = s.clock := rfl
@[simp] theorem State.withLinks_desk (s : State) (v : LinkUnit) : (s.withLinks v).desk = s.desk := rfl
@[simp] theorem State.withLinks_fit (s : State) (v : LinkUnit) : (s.withLinks v).fit = s.fit := rfl
@[simp] theorem State.withLinks_screen (s : State) (v : LinkUnit) : (s.withLinks v).screen = s.screen := rfl
@[simp] theorem State.withLinks_links (s : State) (v : LinkUnit) : (s.withLinks v).links = v := rfl
@[simp] theorem State.withLinks_intake (s : State) (v : LinkUnit) : (s.withLinks v).intake = s.intake := rfl
@[simp] theorem State.withLinks_page (s : State) (v : LinkUnit) : (s.withLinks v).page = s.page := rfl
@[simp] theorem State.withLinks_set (s : State) (v : LinkUnit) : (s.withLinks v).set = s.set := rfl
@[simp] theorem State.withLinks_fault (s : State) (v : LinkUnit) : (s.withLinks v).fault = s.fault := rfl
@[simp] theorem State.withLinks_setup (s : State) (v : LinkUnit) : (s.withLinks v).setup = s.setup := rfl
@[simp] theorem State.withLinks_withLinks (s : State) (u v : LinkUnit) : (s.withLinks u).withLinks v = s.withLinks v := rfl

@[simp] theorem State.withIntake_pending (s : State) (v : IntakeUnit) : (s.withIntake v).pending = s.pending := rfl
@[simp] theorem State.withIntake_notices (s : State) (v : IntakeUnit) : (s.withIntake v).notices = s.notices := rfl
@[simp] theorem State.withIntake_mem (s : State) (v : IntakeUnit) : (s.withIntake v).mem = s.mem := rfl
@[simp] theorem State.withIntake_flaws (s : State) (v : IntakeUnit) : (s.withIntake v).flaws = s.flaws := rfl
@[simp] theorem State.withIntake_path (s : State) (v : IntakeUnit) : (s.withIntake v).path = s.path := rfl
@[simp] theorem State.withIntake_dir (s : State) (v : IntakeUnit) : (s.withIntake v).dir = s.dir := rfl
@[simp] theorem State.withIntake_slip (s : State) (v : IntakeUnit) : (s.withIntake v).slip = s.slip := rfl
@[simp] theorem State.withIntake_clock (s : State) (v : IntakeUnit) : (s.withIntake v).clock = s.clock := rfl
@[simp] theorem State.withIntake_desk (s : State) (v : IntakeUnit) : (s.withIntake v).desk = s.desk := rfl
@[simp] theorem State.withIntake_fit (s : State) (v : IntakeUnit) : (s.withIntake v).fit = s.fit := rfl
@[simp] theorem State.withIntake_screen (s : State) (v : IntakeUnit) : (s.withIntake v).screen = s.screen := rfl
@[simp] theorem State.withIntake_links (s : State) (v : IntakeUnit) : (s.withIntake v).links = s.links := rfl
@[simp] theorem State.withIntake_intake (s : State) (v : IntakeUnit) : (s.withIntake v).intake = v := rfl
@[simp] theorem State.withIntake_page (s : State) (v : IntakeUnit) : (s.withIntake v).page = s.page := rfl
@[simp] theorem State.withIntake_set (s : State) (v : IntakeUnit) : (s.withIntake v).set = s.set := rfl
@[simp] theorem State.withIntake_fault (s : State) (v : IntakeUnit) : (s.withIntake v).fault = s.fault := rfl
@[simp] theorem State.withIntake_setup (s : State) (v : IntakeUnit) : (s.withIntake v).setup = s.setup := rfl
@[simp] theorem State.withIntake_withIntake (s : State) (u v : IntakeUnit) : (s.withIntake u).withIntake v = s.withIntake v := rfl

@[simp] theorem State.withPage_pending (s : State) (v : PageUnit) : (s.withPage v).pending = s.pending := rfl
@[simp] theorem State.withPage_notices (s : State) (v : PageUnit) : (s.withPage v).notices = s.notices := rfl
@[simp] theorem State.withPage_mem (s : State) (v : PageUnit) : (s.withPage v).mem = s.mem := rfl
@[simp] theorem State.withPage_flaws (s : State) (v : PageUnit) : (s.withPage v).flaws = s.flaws := rfl
@[simp] theorem State.withPage_path (s : State) (v : PageUnit) : (s.withPage v).path = s.path := rfl
@[simp] theorem State.withPage_dir (s : State) (v : PageUnit) : (s.withPage v).dir = s.dir := rfl
@[simp] theorem State.withPage_slip (s : State) (v : PageUnit) : (s.withPage v).slip = s.slip := rfl
@[simp] theorem State.withPage_clock (s : State) (v : PageUnit) : (s.withPage v).clock = s.clock := rfl
@[simp] theorem State.withPage_desk (s : State) (v : PageUnit) : (s.withPage v).desk = s.desk := rfl
@[simp] theorem State.withPage_fit (s : State) (v : PageUnit) : (s.withPage v).fit = s.fit := rfl
@[simp] theorem State.withPage_screen (s : State) (v : PageUnit) : (s.withPage v).screen = s.screen := rfl
@[simp] theorem State.withPage_links (s : State) (v : PageUnit) : (s.withPage v).links = s.links := rfl
@[simp] theorem State.withPage_intake (s : State) (v : PageUnit) : (s.withPage v).intake = s.intake := rfl
@[simp] theorem State.withPage_page (s : State) (v : PageUnit) : (s.withPage v).page = v := rfl
@[simp] theorem State.withPage_set (s : State) (v : PageUnit) : (s.withPage v).set = s.set := rfl
@[simp] theorem State.withPage_fault (s : State) (v : PageUnit) : (s.withPage v).fault = s.fault := rfl
@[simp] theorem State.withPage_setup (s : State) (v : PageUnit) : (s.withPage v).setup = s.setup := rfl
@[simp] theorem State.withPage_withPage (s : State) (u v : PageUnit) : (s.withPage u).withPage v = s.withPage v := rfl

@[simp] theorem State.withSet_pending (s : State) (v : SetLink) : (s.withSet v).pending = s.pending := rfl
@[simp] theorem State.withSet_notices (s : State) (v : SetLink) : (s.withSet v).notices = s.notices := rfl
@[simp] theorem State.withSet_mem (s : State) (v : SetLink) : (s.withSet v).mem = s.mem := rfl
@[simp] theorem State.withSet_flaws (s : State) (v : SetLink) : (s.withSet v).flaws = s.flaws := rfl
@[simp] theorem State.withSet_path (s : State) (v : SetLink) : (s.withSet v).path = s.path := rfl
@[simp] theorem State.withSet_dir (s : State) (v : SetLink) : (s.withSet v).dir = s.dir := rfl
@[simp] theorem State.withSet_slip (s : State) (v : SetLink) : (s.withSet v).slip = s.slip := rfl
@[simp] theorem State.withSet_clock (s : State) (v : SetLink) : (s.withSet v).clock = s.clock := rfl
@[simp] theorem State.withSet_desk (s : State) (v : SetLink) : (s.withSet v).desk = s.desk := rfl
@[simp] theorem State.withSet_fit (s : State) (v : SetLink) : (s.withSet v).fit = s.fit := rfl
@[simp] theorem State.withSet_screen (s : State) (v : SetLink) : (s.withSet v).screen = s.screen := rfl
@[simp] theorem State.withSet_links (s : State) (v : SetLink) : (s.withSet v).links = s.links := rfl
@[simp] theorem State.withSet_intake (s : State) (v : SetLink) : (s.withSet v).intake = s.intake := rfl
@[simp] theorem State.withSet_page (s : State) (v : SetLink) : (s.withSet v).page = s.page := rfl
@[simp] theorem State.withSet_set (s : State) (v : SetLink) : (s.withSet v).set = v := rfl
@[simp] theorem State.withSet_fault (s : State) (v : SetLink) : (s.withSet v).fault = s.fault := rfl
@[simp] theorem State.withSet_setup (s : State) (v : SetLink) : (s.withSet v).setup = s.setup := rfl
@[simp] theorem State.withSet_withSet (s : State) (u v : SetLink) : (s.withSet u).withSet v = s.withSet v := rfl

@[simp] theorem State.withFault_pending (s : State) (v : FaultUnit) : (s.withFault v).pending = s.pending := rfl
@[simp] theorem State.withFault_notices (s : State) (v : FaultUnit) : (s.withFault v).notices = s.notices := rfl
@[simp] theorem State.withFault_mem (s : State) (v : FaultUnit) : (s.withFault v).mem = s.mem := rfl
@[simp] theorem State.withFault_flaws (s : State) (v : FaultUnit) : (s.withFault v).flaws = s.flaws := rfl
@[simp] theorem State.withFault_path (s : State) (v : FaultUnit) : (s.withFault v).path = s.path := rfl
@[simp] theorem State.withFault_dir (s : State) (v : FaultUnit) : (s.withFault v).dir = s.dir := rfl
@[simp] theorem State.withFault_slip (s : State) (v : FaultUnit) : (s.withFault v).slip = s.slip := rfl
@[simp] theorem State.withFault_clock (s : State) (v : FaultUnit) : (s.withFault v).clock = s.clock := rfl
@[simp] theorem State.withFault_desk (s : State) (v : FaultUnit) : (s.withFault v).desk = s.desk := rfl
@[simp] theorem State.withFault_fit (s : State) (v : FaultUnit) : (s.withFault v).fit = s.fit := rfl
@[simp] theorem State.withFault_screen (s : State) (v : FaultUnit) : (s.withFault v).screen = s.screen := rfl
@[simp] theorem State.withFault_links (s : State) (v : FaultUnit) : (s.withFault v).links = s.links := rfl
@[simp] theorem State.withFault_intake (s : State) (v : FaultUnit) : (s.withFault v).intake = s.intake := rfl
@[simp] theorem State.withFault_page (s : State) (v : FaultUnit) : (s.withFault v).page = s.page := rfl
@[simp] theorem State.withFault_set (s : State) (v : FaultUnit) : (s.withFault v).set = s.set := rfl
@[simp] theorem State.withFault_fault (s : State) (v : FaultUnit) : (s.withFault v).fault = v := rfl
@[simp] theorem State.withFault_setup (s : State) (v : FaultUnit) : (s.withFault v).setup = s.setup := rfl
@[simp] theorem State.withFault_withFault (s : State) (u v : FaultUnit) : (s.withFault u).withFault v = s.withFault v := rfl

@[simp] theorem State.withSetup_pending (s : State) (v : SetupPort) : (s.withSetup v).pending = s.pending := rfl
@[simp] theorem State.withSetup_notices (s : State) (v : SetupPort) : (s.withSetup v).notices = s.notices := rfl
@[simp] theorem State.withSetup_mem (s : State) (v : SetupPort) : (s.withSetup v).mem = s.mem := rfl
@[simp] theorem State.withSetup_flaws (s : State) (v : SetupPort) : (s.withSetup v).flaws = s.flaws := rfl
@[simp] theorem State.withSetup_path (s : State) (v : SetupPort) : (s.withSetup v).path = s.path := rfl
@[simp] theorem State.withSetup_dir (s : State) (v : SetupPort) : (s.withSetup v).dir = s.dir := rfl
@[simp] theorem State.withSetup_slip (s : State) (v : SetupPort) : (s.withSetup v).slip = s.slip := rfl
@[simp] theorem State.withSetup_clock (s : State) (v : SetupPort) : (s.withSetup v).clock = s.clock := rfl
@[simp] theorem State.withSetup_desk (s : State) (v : SetupPort) : (s.withSetup v).desk = s.desk := rfl
@[simp] theorem State.withSetup_fit (s : State) (v : SetupPort) : (s.withSetup v).fit = s.fit := rfl
@[simp] theorem State.withSetup_screen (s : State) (v : SetupPort) : (s.withSetup v).screen = s.screen := rfl
@[simp] theorem State.withSetup_links (s : State) (v : SetupPort) : (s.withSetup v).links = s.links := rfl
@[simp] theorem State.withSetup_intake (s : State) (v : SetupPort) : (s.withSetup v).intake = s.intake := rfl
@[simp] theorem State.withSetup_page (s : State) (v : SetupPort) : (s.withSetup v).page = s.page := rfl
@[simp] theorem State.withSetup_set (s : State) (v : SetupPort) : (s.withSetup v).set = s.set := rfl
@[simp] theorem State.withSetup_fault (s : State) (v : SetupPort) : (s.withSetup v).fault = s.fault := rfl
@[simp] theorem State.withSetup_setup (s : State) (v : SetupPort) : (s.withSetup v).setup = v := rfl
@[simp] theorem State.withSetup_withSetup (s : State) (u v : SetupPort) : (s.withSetup u).withSetup v = s.withSetup v := rfl

end Sys2Proof.Machine
end

