-- ==== Sys2Proof/Laws/Table.lean ====
section
/-! SUPPORT. Laws of the sparse tables and of the store: a read after a write, and that every operation keeps the canonical form. -/

namespace Sys2Proof.Machine

variable {α : Type}

theorem tget_tdrop_same (d : Nat → α) (k : Nat) : ∀ t : Table α, tget d (tdrop k t) k = d k
  | [] => rfl
  | (j, v) :: t => by
    by_cases h : j = k
    · simp [tdrop, h, tget_tdrop_same d k t]
    · simp [tdrop, tget, h, tget_tdrop_same d k t]

theorem tget_tdrop_other (d : Nat → α) {k n : Nat} (h : n ≠ k) : ∀ t : Table α, tget d (tdrop k t) n = tget d t n
  | [] => rfl
  | (j, v) :: t => by
    by_cases hj : j = k
    · subst hj
      simp [tdrop, tget, Ne.symm h, tget_tdrop_other d h t]
    · simp [tdrop, tget, hj, tget_tdrop_other d h t]

theorem tget_tins_other (d : Nat → α) (v : α) {k n : Nat} (h : n ≠ k) : ∀ t : Table α, tget d (tins k v t) n = tget d t n
  | [] => by simp [tins, tget, Ne.symm h]
  | (j, u) :: t => by
    by_cases hk : k < j
    · simp [tins, tget, hk, Ne.symm h]
    · simp [tins, tget, hk, tget_tins_other d v h t]

/-- No entry of a table is at `k`. -/
def tfree (k : Nat) (t : Table α) : Prop := ∀ e, e ∈ t → e.1 ≠ k

theorem tfree_tdrop (k : Nat) : ∀ t : Table α, tfree k (tdrop k t)
  | [] => by simp [tfree, tdrop]
  | (j, v) :: t => by
    have ih := tfree_tdrop k t
    by_cases h : j = k
    · simpa [tdrop, h] using ih
    · intro e he
      simp only [tdrop, h, if_false, List.mem_cons] at he
      rcases he with rfl | he
      · exact h
      · exact ih e he

theorem tget_tins_same (d : Nat → α) (k : Nat) (v : α) : ∀ t : Table α, tfree k t → tget d (tins k v t) k = v
  | [], _ => by simp [tins, tget]
  | (j, u) :: t, h => by
    have hj : j ≠ k := h (j, u) (by simp)
    have ht : tfree k t := fun e he => h e (by simp [he])
    by_cases hk : k < j
    · simp [tins, tget, hk]
    · simp [tins, tget, hk, hj, tget_tins_same d k v t ht]

theorem tabove_iff (k : Nat) : ∀ t : Table α, tabove k t = true ↔ ∀ e, e ∈ t → k < e.1
  | [] => by simp [tabove]
  | (j, v) :: t => by simp [tabove, tabove_iff k t]

theorem mem_tdrop {k : Nat} {e : Nat × α} : ∀ {t : Table α}, e ∈ tdrop k t → e ∈ t
  | [], h => h
  | (j, v) :: t, h => by
    by_cases hj : j = k
    · simp only [tdrop, hj, if_true] at h
      exact List.mem_cons_of_mem _ (mem_tdrop h)
    · simp only [tdrop, hj, if_false, List.mem_cons] at h
      rcases h with rfl | h
      · exact List.mem_cons_self
      · exact List.mem_cons_of_mem _ (mem_tdrop h)

theorem mem_tins {k : Nat} {v : α} {e : Nat × α} : ∀ {t : Table α}, e ∈ tins k v t → e = (k, v) ∨ e ∈ t
  | [], h => by simpa [tins] using h
  | (j, u) :: t, h => by
    by_cases hk : k < j
    · simpa [tins, hk] using h
    · simp only [tins, hk, if_false, List.mem_cons] at h
      rcases h with rfl | h
      · exact .inr List.mem_cons_self
      · rcases mem_tins h with h | h
        · exact .inl h
        · exact .inr (List.mem_cons_of_mem _ h)

variable [DecidableEq α]

/-- A read after a write to the same number gives the value written. -/
@[simp] theorem tget_tset_same (d : Nat → α) (t : Table α) (k : Nat) (v : α) : tget d (tset d t k v) k = v := by
  unfold tset
  split
  · rename_i h
    rw [tget_tdrop_same, h]
  · exact tget_tins_same d k v _ (tfree_tdrop k t)

/-- A write leaves every other number alone. -/
theorem tget_tset_other (d : Nat → α) (t : Table α) {k n : Nat} (v : α) (h : n ≠ k) : tget d (tset d t k v) n = tget d t n := by
  unfold tset
  split
  · exact tget_tdrop_other d h t
  · rw [tget_tins_other d v h, tget_tdrop_other d h]

theorem twf_tdrop (d : Nat → α) (k : Nat) : ∀ t : Table α, twf d t = true → twf d (tdrop k t) = true
  | [], _ => rfl
  | (j, v) :: t, h => by
    simp only [twf, Bool.and_eq_true] at h
    by_cases hj : j = k
    · simpa [tdrop, hj] using twf_tdrop d k t h.2
    · simp only [tdrop, hj, if_false, twf, Bool.and_eq_true]
      exact ⟨⟨(tabove_iff j _).2 fun e he => (tabove_iff j t).1 h.1.1 e (mem_tdrop he), h.1.2⟩, twf_tdrop d k t h.2⟩

theorem twf_tins (d : Nat → α) {k : Nat} {v : α} (hv : v ≠ d k) : ∀ t : Table α, tfree k t → twf d t = true → twf d (tins k v t) = true
  | [], _, _ => by simp [tins, twf, tabove, hv]
  | (j, u) :: t, hf, h => by
    have hj : j ≠ k := hf (j, u) (by simp)
    have ht : tfree k t := fun e he => hf e (by simp [he])
    have h' := h
    simp only [twf, Bool.and_eq_true] at h
    by_cases hk : k < j
    · have above : tabove k ((j, u) :: t) = true := (tabove_iff k _).2 fun e he => by
        rcases List.mem_cons.1 he with rfl | he
        · exact hk
        · exact Nat.lt_trans hk ((tabove_iff j t).1 h.1.1 e he)
      simp only [tins, hk, if_true]
      unfold twf
      simp [above, hv, h']
    · simp only [tins, hk, if_false, twf, Bool.and_eq_true]
      refine ⟨⟨(tabove_iff j _).2 fun e he => ?_, h.1.2⟩, twf_tins d hv t ht h.2⟩
      rcases mem_tins he with rfl | he
      · exact Nat.lt_of_le_of_ne (Nat.not_lt.1 hk) hj
      · exact (tabove_iff j t).1 h.1.1 e he

/-- A write keeps the canonical form. -/
theorem twf_tset (d : Nat → α) (t : Table α) (k : Nat) (v : α) (h : twf d t = true) : twf d (tset d t k v) = true := by
  unfold tset
  split
  · exact twf_tdrop d k t h
  · rename_i hv
    exact twf_tins d hv _ (tfree_tdrop k t) (twf_tdrop d k t h)

/-! ### The store -/

@[simp] theorem State.putByte_byte_same (s : State) (a : Nat) (b : Byte) : (s.putByte a b).byte a = b := tget_tset_same ..

theorem State.putByte_byte_other (s : State) {a x : Nat} (b : Byte) (h : x ≠ a) : (s.putByte a b).byte x = s.byte x :=
  tget_tset_other _ _ _ h

@[simp] theorem State.putEcc_mem (s : State) (a : Nat) (e : Ecc) : (s.putEcc a e).mem = s.mem := rfl
@[simp] theorem State.putEcc_ecc_same (s : State) (a : Nat) (e : Ecc) : (s.putEcc a e).ecc a = e := tget_tset_same ..

theorem State.putEcc_ecc_other (s : State) {a x : Nat} (e : Ecc) (h : x ≠ a) : (s.putEcc a e).ecc x = s.ecc x := tget_tset_other _ _ _ h

theorem State.freshWords_mem (n : Nat) : ∀ (a : Nat) (s : State), (s.freshWords a n).mem = s.mem := by
  induction n with
  | zero => intro _ _; rfl
  | succ n ih => intro a s; exact ih (a + 4) (s.putEcc a .clean)

/-- Bytes written change only their own addresses. -/
theorem State.putBytes_byte_other {x : Nat} : ∀ (l : List Byte) (s : State) (a : Nat), ¬ (a ≤ x ∧ x < a + l.length) →
    (s.putBytes a l).byte x = s.byte x
  | [], _, _, _ => rfl
  | b :: r, s, a, h => by
    simp only [List.length_cons] at h
    rw [State.putBytes, State.putBytes_byte_other r _ _ (by omega), State.putByte_byte_other _ _ (by omega)]

/-- Bytes written are the bytes read. -/
theorem State.putBytes_byte_same (l : List Byte) : ∀ (s : State) (a i : Nat), i < l.length → (s.putBytes a l).byte (a + i) = l.getD i 0 := by
  induction l with
  | nil => intro _ _ i h; exact absurd h (Nat.not_lt_zero i)
  | cons b r ih =>
    intro s a i h
    rw [State.putBytes]
    cases i with
    | zero =>
      rw [State.putBytes_byte_other r _ _ (by omega)]
      exact State.putByte_byte_same s a b
    | succ i =>
      have e : a + (i + 1) = a + 1 + i := by omega
      rw [e, ih _ _ i (Nat.lt_of_succ_lt_succ h)]
      rfl

/-- Every store operation keeps the canonical form. -/
theorem State.putByte_wf (s : State) (a : Nat) (b : Byte) (h : Memory.wf s.mem = true) : Memory.wf (s.putByte a b).mem = true :=
  twf_tset unwritten s.mem a b h

theorem State.putBytes_wf : ∀ (l : List Byte) (s : State) (a : Nat), Memory.wf s.mem = true → Memory.wf (s.putBytes a l).mem = true
  | [], _, _, h => h
  | b :: r, s, a, h => State.putBytes_wf r (s.putByte a b) (a + 1) (s.putByte_wf a b h)

theorem State.putWord_wf (s : State) (a : Nat) (w : Word) (h : Memory.wf s.mem = true) : Memory.wf (s.putWord a w).mem = true :=
  State.putBytes_wf (wordBytes w) s a h

theorem State.ownWrite_wf (s : State) (a : Nat) (l : List Byte) (h : Memory.wf s.mem = true) : Memory.wf (s.ownWrite a l).mem = true := by
  unfold State.ownWrite
  rw [State.freshWords_mem]
  exact State.putBytes_wf l s a h

theorem State.reset_wf : Memory.wf State.reset.mem = true := rfl

end Sys2Proof.Machine
end

