-- ==== Sys2Proof/Laws/Ops.lean ====
section
/-! SUPPORT. One law per shared operation: entries of the tables, notices in flight, slips handed over and answered, own reads, and the
outcome of every command. -/

namespace Sys2Proof.Machine

/-! ### Entries -/

@[simp] theorem State.putStory_story_same (s : State) (k : Nat) (v) : (s.putStory k v).story k = v := tget_tset_same ..
theorem State.putStory_story_other (s : State) {k n : Nat} (v) (h : n ≠ k) : (s.putStory k v).story n = s.story n := tget_tset_other _ _ v h
@[simp] theorem State.putBlock_blockEntry_same (s : State) (k : Nat) (v) : (s.putBlock k v).blockEntry k = v := tget_tset_same ..
theorem State.putBlock_blockEntry_other (s : State) {k n : Nat} (v) (h : n ≠ k) : (s.putBlock k v).blockEntry n = s.blockEntry n := tget_tset_other _ _ v h
@[simp] theorem State.putPosition_position_same (s : State) (k : Nat) (v) : (s.putPosition k v).position k = v := tget_tset_same ..
theorem State.putPosition_position_other (s : State) {k n : Nat} (v) (h : n ≠ k) : (s.putPosition k v).position n = s.position n := tget_tset_other _ _ v h
@[simp] theorem State.putDeskEntry_deskEntry_same (s : State) (k : Nat) (v) : (s.putDeskEntry k v).deskEntry k = v := tget_tset_same ..
theorem State.putDeskEntry_deskEntry_other (s : State) {k n : Nat} (v) (h : n ≠ k) : (s.putDeskEntry k v).deskEntry n = s.deskEntry n := tget_tset_other _ _ v h
@[simp] theorem State.putBasket_basketOf_same (s : State) (k : Nat) (v) : (s.putBasket k v).basketOf k = v := tget_tset_same ..
theorem State.putBasket_basketOf_other (s : State) {k n : Nat} (v) (h : n ≠ k) : (s.putBasket k v).basketOf n = s.basketOf n := tget_tset_other _ _ v h
@[simp] theorem State.putBracket_bracketAt_same (s : State) (k : Nat) (v) : (s.putBracket k v).bracketAt k = v := tget_tset_same ..
theorem State.putBracket_bracketAt_other (s : State) {k n : Nat} (v) (h : n ≠ k) : (s.putBracket k v).bracketAt n = s.bracketAt n := tget_tset_other _ _ v h
@[simp] theorem State.putView_viewOf_same (s : State) (k : Nat) (v) : (s.putView k v).viewOf k = v := tget_tset_same ..
theorem State.putView_viewOf_other (s : State) {k n : Nat} (v) (h : n ≠ k) : (s.putView k v).viewOf n = s.viewOf n := tget_tset_other _ _ v h
@[simp] theorem State.putDirty_dirtyMap_same (s : State) (k : Nat) (v) : (s.putDirty k v).dirtyMap k = v := tget_tset_same ..
theorem State.putDirty_dirtyMap_other (s : State) {k n : Nat} (v) (h : n ≠ k) : (s.putDirty k v).dirtyMap n = s.dirtyMap n := tget_tset_other _ _ v h
@[simp] theorem State.putLink_link_same (s : State) (k : Nat) (v) : (s.putLink k v).link k = v := tget_tset_same ..
theorem State.putLink_link_other (s : State) {k n : Nat} (v) (h : n ≠ k) : (s.putLink k v).link n = s.link n := tget_tset_other _ _ v h
@[simp] theorem State.putLine_line_same (s : State) (k : Nat) (v) : (s.putLine k v).line k = v := tget_tset_same ..
theorem State.putLine_line_other (s : State) {k n : Nat} (v) (h : n ≠ k) : (s.putLine k v).line n = s.line n := tget_tset_other _ _ v h
@[simp] theorem State.putEdition_editionOf_same (s : State) (k : Nat) (v) : (s.putEdition k v).editionOf k = v := tget_tset_same ..
theorem State.putEdition_editionOf_other (s : State) {k n : Nat} (v) (h : n ≠ k) : (s.putEdition k v).editionOf n = s.editionOf n := tget_tset_other _ _ v h
@[simp] theorem State.putPage_pageAt_same (s : State) (k : Nat) (v) : (s.putPage k v).pageAt k = v := tget_tset_same ..
theorem State.putPage_pageAt_other (s : State) {k n : Nat} (v) (h : n ≠ k) : (s.putPage k v).pageAt n = s.pageAt n := tget_tset_other _ _ v h
@[simp] theorem State.putRefusal_refusalOf_same (s : State) (k : Nat) (v) : (s.putRefusal k v).refusalOf k = v := tget_tset_same ..
theorem State.putRefusal_refusalOf_other (s : State) {k n : Nat} (v) (h : n ≠ k) : (s.putRefusal k v).refusalOf n = s.refusalOf n := tget_tset_other _ _ v h
@[simp] theorem State.putPending_pendingOf_same (s : State) (k : Nat) (v) : (s.putPending k v).pendingOf k = v := tget_tset_same ..
theorem State.putPending_pendingOf_other (s : State) {k n : Nat} (v) (h : n ≠ k) : (s.putPending k v).pendingOf n = s.pendingOf n := tget_tset_other _ _ v h

/-! ### Clamped and saturating values -/

theorem clamp_eq {lo hi : Nat} (h : lo ≤ hi) (n : Nat) : clamp lo hi n = max lo (min hi n) := by
  unfold clamp
  split
  · omega
  · split <;> omega

theorem satAdd_eq (limit n k : Nat) : satAdd limit n k = min limit (n + k) := by
  unfold satAdd
  split <;> omega

/-! ### Bytes of setting items -/

theorem leBytes_succ (n v : Nat) : leBytes (n + 1) v = BitVec.ofNat 8 v :: leBytes n (v / 256) := by
  have h : BitVec.ofNat 8 (v % 256) = BitVec.ofNat 8 v := BitVec.eq_of_toNat_eq (by simp)
  simp [leBytes, h]

theorem leBytes_one (v : Nat) : leBytes 1 v = [BitVec.ofNat 8 v] := leBytes_succ 0 v

theorem leBytes_two (v : Nat) : leBytes 2 v = [BitVec.ofNat 8 v, BitVec.ofNat 8 (v / 256)] := by
  rw [leBytes_succ, leBytes_one]

/-! ### Notices in flight -/

theorem pullFirst_of_oldest {β : Type} {f : Notice → Option β} {a : β} {n : Notice} {after : List Notice} (hn : f n = some a) :
    ∀ before : List Notice, (∀ m, m ∈ before → f m = none) → pullFirst f (before ++ n :: after) = some (a, before ++ after)
  | [], _ => by simp [pullFirst, hn]
  | b :: r, h => by
    have hb : f b = none := h b (by simp)
    have ih := pullFirst_of_oldest (after := after) hn r fun m hm => h m (by simp [hm])
    simp [pullFirst, hb, ih]

theorem Notice.tellsChange_iff (n : Nat) (m : Notice) : m.tellsChange n = true ↔
    (∃ w : WriteNote, m = .fitWrite w ∧ w.story = n) ∨ (∃ b, m = .fitLength n b) ∨ ∃ e, m = .fitPlacement n e := by
  cases m <;> simp [Notice.tellsChange]

/-- Nothing is on its way exactly when no notice in flight tells of a write or a change. -/
theorem noChangeOnWay_iff (l : List Notice) (n : Nat) : noChangeOnWay l n ↔ ∀ m ∈ l, m.tellsChange n = false := by
  constructor
  · rintro ⟨hw, hl, hp⟩ m hm
    refine Bool.eq_false_iff.mpr fun h => ?_
    obtain ⟨w, rfl, hn⟩ | ⟨b, rfl⟩ | ⟨e, rfl⟩ := (Notice.tellsChange_iff n m).mp h
    · exact hw w hm hn
    · exact hl b hm
    · exact hp e hm
  · exact fun h => ⟨fun w hm hn => by simpa [Notice.tellsChange, hn] using h _ hm, fun b hm => by simpa [Notice.tellsChange] using h _ hm,
      fun e hm => by simpa [Notice.tellsChange] using h _ hm⟩

theorem State.changeComing_iff (s : State) (n : Nat) : s.changeComing n = false ↔ noChangeOnWay s.notices n := by
  rw [noChangeOnWay_iff]
  simp [State.changeComing]

/-- The notice that a command takes is the oldest of its sort; the others stay in their order. -/
theorem State.takeNotice_of_oldest {β : Type} {s : State} {sort : Notice → Bool} {n : Notice} {rest : List Notice} {f : Notice → Option β}
    {a : β} (k : β → State → State) (h : s.oldest sort n rest) (hf : ∀ m, sort m = false → f m = none) (hn : f n = some a) :
    s.takeNotice f k = k a (s.withNotices rest) := by
  obtain ⟨before, after, hs, hr, -, hb⟩ := h
  unfold State.takeNotice
  rw [hs, pullFirst_of_oldest hn before fun m hm => hf m (hb m hm), hr]

/-- With no notice of its sort in flight, a command takes none. -/
theorem State.takeNotice_none {β : Type} {s : State} {f : Notice → Option β} (k : β → State → State) (h : ∀ m, m ∈ s.notices → f m = none) :
    s.takeNotice f k = s := by
  have aux : ∀ l : List Notice, (∀ m, m ∈ l → f m = none) → pullFirst f l = none := by
    intro l
    induction l with
    | nil => intro _; rfl
    | cons b r ih =>
      intro hl
      simp [pullFirst, hl b (by simp), ih fun m hm => hl m (by simp [hm])]
  unfold State.takeNotice
  rw [aux _ h]

/-- The notice at the head of the list is the oldest of its sort. -/
theorem State.oldest_head (s : State) (sort : Notice → Bool) (n : Notice) (r : List Notice) (h : s.notices = n :: r) (hn : sort n = true) :
    s.oldest sort n r := ⟨[], r, h, rfl, hn, by simp⟩

/-! ### Slips -/

/-- A slip handed over as a kind is served by that kind's step. -/
theorem State.serve_handed {s : State} {k : SlipKind} {v : Service} (f : Service → State → State) (h : s.handed k v) : s.serve k f = f v s := by
  unfold State.serve
  rw [h.1]
  exact if_pos h.2

/-- A slip that acts on a story is served, or held while a locked pair is open on that story. -/
theorem State.serveUnlocked_handed {s : State} {k : SlipKind} {v : Service} (storyOf : Service → Nat) (f : Service → State → State)
    (h : s.handed k v) : s.serveUnlocked k storyOf f
      = if s.pairStory = some (storyOf v) then s.withSlip { s.slip with service := some { v with phase := .held k } } else f v s :=
  State.serve_handed _ h

/-- An answer is the slip answered with its three words. -/
theorem State.reply_answered (s : State) (v : Service) (r : Result) : s.reply v r = s.answered v r.w5 r.w6 (result r.code.number r.d1 r.d2 r.d3) := rfl

/-! ### Own reads -/

/-- An own read of words that all decode clean gives their data and changes nothing. -/
theorem State.ownRead_clean (s : State) (code : Nat) (n : Nat) : ∀ a : Nat, (∀ i, i < n → s.ecc (a + 4 * i) = .clean) →
    s.ownRead code a n = (s, (List.range n).map fun i => some (s.wordAt (a + 4 * i))) := by
  induction n with
  | zero => intro _ _; rfl
  | succ n ih =>
    intro a h
    have h0 : s.ecc a = .clean := by simpa using h 0 (Nat.succ_pos n)
    have hr : s.ownReadWord code a = (s, some (s.wordAt a)) := by
      unfold State.ownReadWord
      rw [h0]
    have ht := ih (a + 4) fun i hi => by
      have e : a + 4 + 4 * i = a + 4 * (i + 1) := by omega
      rw [e]
      exact h (i + 1) (Nat.succ_lt_succ hi)
    unfold State.ownRead
    rw [hr]
    dsimp only
    rw [ht, List.range_succ_eq_map]
    simp only [List.map_cons, List.map_map, Nat.mul_zero, Nat.add_zero, Prod.mk.injEq, true_and, List.cons.injEq]
    refine List.map_congr_left fun i _ => ?_
    have e : a + 4 + 4 * i = a + 4 * (i + 1) := by omega
    simp [e]

/-! ### Every command -/

/-- Every command completes: the part stops nowhere (INVENTORY.md, Faults). -/
theorem exec_next (c : Instr) (s : State) : ∃ t, exec c s = .next t := by cases c <;> exact ⟨_, rfl⟩

/-- A step of a waiting command is its own effect over the queue's rest. -/
theorem step_cons {s : State} {c : Instr} {r : List Instr} (h : s.pending = c :: r) : step s = exec c (s.withPending r) := by
  unfold step
  rw [h]

/-- A step answers a next state. -/
theorem step_next (s : State) : ∃ t, step s = .next t := by
  unfold step
  split
  · exact ⟨_, rfl⟩
  · exact exec_next _ _

end Sys2Proof.Machine
end

