-- ==== Sys2Proof/Laws/Directory.lean ====
section
/-! SUPPORT. Laws of the Directory's shared operations: allocation, blocks joining and leaving, moves into hands and baskets, and freeing. -/

namespace Sys2Proof.Machine

/-! ### Allocation -/

/-- An allocation that succeeds gives the lowest free blocks, as many as asked. -/
theorem State.allocate_eq {s : State} {n : Nat} {l : List Nat} (h : s.allocate n = some l) : l = s.freeSet.take n ∧ l.length = n := by
  unfold State.allocate at h
  split at h
  · rename_i hl
    cases h
    exact ⟨rfl, hl⟩
  · cases h

/-- An allocation fails only when there are fewer free blocks than asked. -/
theorem State.allocate_none {s : State} {n : Nat} : s.allocate n = none ↔ s.freeSet.length < n := by
  unfold State.allocate
  split
  · rename_i h
    simp only [List.length_take] at h
    simp only [reduceCtorEq, false_iff]
    omega
  · rename_i h
    simp only [List.length_take] at h
    simp only [true_iff]
    omega

/-- A free entry is FREE and in range, and every lower one is not FREE. -/
theorem State.freeEntry_spec {s : State} {n : Nat} (h : s.freeEntry = some n) : 1 ≤ n ∧ n ≤ 2047 ∧ (s.story n).custody = .free := by
  unfold State.freeEntry at h
  have hm := List.mem_of_find?_eq_some h
  have hp := List.find?_some h
  rw [List.mem_range'_1] at hm
  have : Config.storyCount = 2047 := rfl
  exact ⟨hm.1, by omega, by simpa using hp⟩

/-! ### Blocks -/

/-- Block Map entries returned to the free set: each of the list is free, every other is unchanged, and nothing else changes. -/
theorem State.freeBlocks_spec (l : List Nat) : ∀ s : State,
    (∀ b, (s.freeBlocks l).blockEntry b = if b ∈ l then ⟨0, 0⟩ else s.blockEntry b)
      ∧ s.freeBlocks l = { s with dir := { s.dir with blockMap := (s.freeBlocks l).dir.blockMap } } := by
  induction l with
  | nil => intro s; exact ⟨fun b => by simp [State.freeBlocks], rfl⟩
  | cons c r ih =>
    intro s
    obtain ⟨h1, h2⟩ := ih (s.putBlock c {})
    refine ⟨fun b => ?_, ?_⟩
    · rw [State.freeBlocks, h1 b]
      by_cases hb : b ∈ r
      · simp [hb]
      · by_cases hc : b = c
        · subst hc
          simp [hb]
        · simp [hb, hc, State.putBlock_blockEntry_other s {} hc]
    · rw [State.freeBlocks, h2]
      rfl

/-- Block Map entries joining a story change the Block Map alone. -/
theorem State.ownBlocks_frame (n : Nat) (l : List Nat) : ∀ (i : Nat) (s : State),
    s.ownBlocks n i l = { s with dir := { s.dir with blockMap := (s.ownBlocks n i l).dir.blockMap } } := by
  induction l with
  | nil => intro i s; rfl
  | cons b r ih =>
    intro i s
    rw [State.ownBlocks, ih]
    rfl

/-- A block that does not join keeps its entry. -/
theorem State.ownBlocks_other (n : Nat) (l : List Nat) : ∀ (i : Nat) (s : State) (c : Nat), c ∉ l →
    (s.ownBlocks n i l).blockEntry c = s.blockEntry c := by
  induction l with
  | nil => intro _ _ _ _; rfl
  | cons b r ih =>
    intro i s c h
    rw [State.ownBlocks, ih _ _ _ (fun hc => h (List.mem_cons_of_mem _ hc)),
      State.putBlock_blockEntry_other s _ (List.ne_of_not_mem_cons h)]

/-- Blocks joining a chain, none of them twice, have the story as their owner and rising chain indexes. -/
theorem State.ownBlocks_same (n : Nat) (l : List Nat) : ∀ (i : Nat) (s : State), l.Nodup → ∀ j b, l[j]? = some b →
    (s.ownBlocks n i l).blockEntry b = ⟨n, i + j⟩ := by
  induction l with
  | nil => intro _ _ _ j b h; simp at h
  | cons c r ih =>
    intro i s hd j b h
    rw [List.nodup_cons] at hd
    rw [State.ownBlocks]
    cases j with
    | zero =>
      simp only [List.getElem?_cons_zero, Option.some.injEq] at h
      subst h
      rw [State.ownBlocks_other n r _ _ _ hd.1, State.putBlock_blockEntry_same]
      rfl
    | succ j =>
      rw [List.getElem?_cons_succ] at h
      rw [ih (i + 1) _ hd.2 j b h]
      simp only [BlockEntry.mk.injEq, true_and]
      omega

/-! ### Moves -/

/-- A story entering a hand: its custody and take time, the hand's tail, and the hand notice. -/
theorem State.enterHand_spec (s : State) (n p : Nat) :
    (s.enterHand n p).story n = { s.story n with custody := .held p, takeTime := s.clock.tod }
      ∧ (∀ m, m ≠ n → (s.enterHand n p).story m = s.story m)
      ∧ (s.enterHand n p).position p = { s.position p with hand := (s.position p).hand ++ [n] }
      ∧ (∀ q, q ≠ p → (s.enterHand n p).position q = s.position q)
      ∧ (s.enterHand n p).notices = s.notices ++ [.hand p] := by
  let t := s.putStory n { s.story n with custody := .held p, takeTime := s.clock.tod }
  have hs : ∀ m, (s.enterHand n p).story m = t.story m := fun _ => rfl
  have hp : ∀ q, (s.enterHand n p).position q = (t.putPosition p { s.position p with hand := (s.position p).hand ++ [n] }).position q :=
    fun _ => rfl
  refine ⟨(hs n).trans (State.putStory_story_same s n _), fun m h => (hs m).trans (State.putStory_story_other s _ h),
    (hp p).trans (State.putPosition_position_same t p _), fun q h => (hp q).trans (State.putPosition_position_other t _ h), rfl⟩

/-- A story entering a basket: its custody and entry time, its place in the basket by class, and the basket notice. -/
theorem State.enterBasket_spec (s : State) (n d : Nat) :
    (s.enterBasket n d).story n = { s.story n with custody := .basket d, entryTime := s.clock.tod }
      ∧ (∀ m, m ≠ n → (s.enterBasket n d).story m = s.story m)
      ∧ (∀ e, e ≠ d → (s.enterBasket n d).basketOf e = s.basketOf e)
      ∧ (s.enterBasket n d).notices = s.notices ++ [.basket d] := by
  let t := s.putStory n { s.story n with custody := .basket d, entryTime := s.clock.tod }
  have hs : ∀ m, (s.enterBasket n d).story m = t.story m := fun _ => rfl
  have hb : ∀ e, (s.enterBasket n d).basketOf e = (t.putBasket d (t.basketInsert (t.basketOf d) n)).basketOf e := fun _ => rfl
  refine ⟨(hs n).trans (State.putStory_story_same s n _), fun m h => (hs m).trans (State.putStory_story_other s _ h),
    fun e h => (hb e).trans (State.putBasket_basketOf_other t _ h), rfl⟩

/-- A story inserted in a basket is in it, and the stories that were there keep their order around it. -/
theorem State.basketInsert_split (s : State) (l : List Nat) (n : Nat) :
    ∃ a b, l = a ++ b ∧ s.basketInsert l n = a ++ n :: b :=
  ⟨_, _, (List.takeWhile_append_dropWhile ..).symm, rfl⟩

/-- A story leaving: its hand or basket loses it, and the notice of that hand or basket goes out. -/
theorem State.leave_held {s : State} {n p : Nat} (h : (s.story n).custody = .held p) :
    s.leave n = (s.putPosition p { s.position p with hand := (s.position p).hand.filter (· ≠ n) }).send (.hand p) := by
  unfold State.leave
  rw [h]

theorem State.leave_basket {s : State} {n d : Nat} (h : (s.story n).custody = .basket d) :
    s.leave n = (s.putBasket d ((s.basketOf d).filter (· ≠ n))).send (.basket d) := by
  unfold State.leave
  rw [h]

/-- A freed story is FREE with every field at its default. -/
theorem State.freeStory_story (s : State) (n : Nat) : (s.freeStory n).story n = {} :=
  State.putStory_story_same ((s.leave n).freeBlocks (s.story n).chain) n {}

end Sys2Proof.Machine
end

