-- ==== Sys2Proof/Laws/Rows.lean ====
section
/-! SUPPORT. Laws of the marking of rows (R101). -/

namespace Sys2Proof.Machine

/-- Marking a row changes the dirty maps and the notices alone. -/
theorem State.markRow_frame (s : State) (p r : Nat) :
    s.markRow p r = { s with screen := { s.screen with dirty := (s.markRow p r).screen.dirty }, notices := (s.markRow p r).notices } := by
  unfold State.markRow
  split <;> rfl

/-- Marking a row leaves the map of every other position alone. -/
theorem State.markRow_other (s : State) {p q : Nat} (r : Nat) (h : q ≠ p) : (s.markRow p r).dirtyMap q = s.dirtyMap q := by
  unfold State.markRow
  split
  · exact tget_tset_other _ _ _ h
  · rfl

/-- A row of a position that is not in use is not marked, and a dirty row sends nothing more. -/
theorem State.markRow_idle {s : State} {p r : Nat} (h : (s.position p).inUse = false ∨ (s.dirtyMap p).getLsbD r = true) :
    s.markRow p r = s := by
  unfold State.markRow
  rcases h with h | h <;> simp [h]

/-- A clean row of an in-use position becomes dirty and sends a dirty notice to its drop. -/
theorem State.markRow_clean {s : State} {p r : Nat} (hu : (s.position p).inUse = true) (hr : (s.dirtyMap p).getLsbD r = false) :
    (s.markRow p r).dirtyMap p = s.dirtyMap p ||| rowBit r
      ∧ (s.markRow p r).notices = s.notices ++ [.dirty (s.position p).link (s.position p).drop] := by
  have e : s.markRow p r = (s.putDirty p (s.dirtyMap p ||| rowBit r)).send (.dirty (s.position p).link (s.position p).drop) := by
    unfold State.markRow
    simp [hu, hr]
  rw [e]
  exact ⟨tget_tset_same .., rfl⟩

/-- Marking rows changes the dirty maps and the notices alone. -/
theorem State.markRows_frame (l : List Nat) (p : Nat) : ∀ s : State,
    s.markRows p l = { s with
      screen := { s.screen with dirty := (s.markRows p l).screen.dirty }, notices := (s.markRows p l).notices } := by
  induction l with
  | nil => intro s; rfl
  | cons r l ih =>
    intro s
    have h : s.markRows p (r :: l) = (s.markRow p r).markRows p l := rfl
    rw [h, ih (s.markRow p r), State.markRow_frame s p r]

end Sys2Proof.Machine
end

