-- ==== Sys2Proof/Laws/SetLink.lean ====
section
/-! SUPPORT. The laws of the set link's read-ahead and of its transmitter: what `supply` moves, and what taking bytes can change. -/

namespace Sys2Proof.Machine

/-- The bytes moved are the first of the lines read ahead. -/
@[simp] theorem supply_fst (n : Nat) (lines : List (List (Nat × Byte))) : (supply n lines).1 = lines.flatten.take n := by
  induction lines generalizing n with
  | nil => simp [supply]
  | cons line r ih =>
    unfold supply
    split
    · next h => simp [List.take_append, Nat.sub_eq_zero_of_le (Nat.le_of_lt h)]
    · next h => simp [ih, List.take_append, List.take_of_length_le (Nat.le_of_not_lt h)]

/-- The bytes left are the others, in their order. -/
@[simp] theorem supply_snd_flatten (n : Nat) (lines : List (List (Nat × Byte))) : (supply n lines).2.flatten = lines.flatten.drop n := by
  induction lines generalizing n with
  | nil => simp [supply]
  | cons line r ih =>
    unfold supply
    split
    · next h => simp [List.drop_append, Nat.sub_eq_zero_of_le (Nat.le_of_lt h)]
    · next h => simp [ih, List.drop_append, List.drop_of_length_le (Nat.le_of_not_lt h)]

/-- A place is only freed by taking bytes. -/
theorem supply_snd_length (n : Nat) (lines : List (List (Nat × Byte))) : (supply n lines).2.length ≤ lines.length := by
  induction lines generalizing n with
  | nil => simp [supply]
  | cons line r ih =>
    unfold supply
    split
    · simp
    · exact Nat.le_trans (ih _) (by simp)

/-- A read-ahead asks for at most one read: nothing else changes. -/
theorem State.readAhead_changes (s : State) : ∃ r, s.readAhead = { s with set := { s.set with request := r } } := by
  unfold State.readAhead
  dsimp only
  repeat' split
  all_goals first | exact ⟨s.set.request, rfl⟩ | exact ⟨_, rfl⟩

/-- Bytes that the transmitter takes change the frame in progress, the sending pass and the read that is asked for. -/
theorem State.transmit_changes (s : State) (k : Nat) :
    ∃ tx stage request, s.transmit k = { s with set := { s.set with tx, stage, request } } := by
  unfold State.transmit
  dsimp only
  repeat' split
  · exact ⟨s.set.tx, s.set.stage, s.set.request, rfl⟩
  · obtain ⟨r, h⟩ := State.readAhead_changes _
    exact ⟨_, _, r, h⟩
  · exact ⟨s.set.tx, s.set.stage, s.set.request, rfl⟩

/-- No byte taken changes nothing. -/
@[simp] theorem State.transmit_zero (s : State) : s.transmit 0 = s := by
  unfold State.transmit
  dsimp only
  split <;> simp

/-- Without an unspoiled TEXT frame in progress there is nothing to take. -/
theorem State.transmit_of_no_text {s : State} (h : ∀ n payload, s.set.tx ≠ some (.text n payload false)) (k : Nat) : s.transmit k = s := by
  unfold State.transmit
  split
  · next hx _ => exact absurd hx (h _ _)
  · rfl

end Sys2Proof.Machine
end

