-- ==== Sys2Proof/Tests/Slice0.lean ====
section
/-! SUPPORT. Tests: the well-formedness smoke test, figures of the manual's tables and worked sequences, and a witness for the hypotheses of
each statement. Expected results come from the rule each test names. -/

namespace Sys2Proof.Tests

open Sys2Proof Sys2Proof.Machine

set_option Elab.async false

/-- The next state of a command. -/
def after (c : Instr) (s : State) : State :=
  match exec c s with
  | .next t => t
  | .fault _ => s
  | .refused _ => s

/-- A small part in ACTIVE: 64 Copy Area blocks from block 16, one desk with make-up, a chief at position 0 (agent 0) and an editor at
position 1 (agent 1) who holds stories 1 and 2; story 3 is URGENT in basket 0, story 4 is in the intake of line 2. -/
def base : State :=
  { path := { regions := ⟨16, 16, 64, 0⟩ }
    setup := { partState := .active, staged := ⟨16, 16, 64, 0⟩ }
    clock := { tod := 1000, clockSet := true }
    dir := {
      stories := [(1, { custody := .held 1, chain := [16] }), (2, { custody := .held 1, chain := [17, 18] }),
        (3, { custody := .basket 0, cls := .urgent, chain := [19], entryTime := 900 }), (4, { custody := .intake 2, chain := [20] })]
      blockMap := [(16, ⟨1, 0⟩), (17, ⟨2, 0⟩), (18, ⟨2, 1⟩), (19, ⟨3, 0⟩), (20, ⟨4, 0⟩)]
      positions := [(0, ⟨true, 0, 0, 0, 0, true, []⟩), (1, ⟨true, 0, 1, 0, 1, false, [1, 2]⟩)]
      desks := [(0, { deskDefault 0 with makeup := true })] }
    desk := { baskets := [(0, [3])] } }

/-- A slip of agent 1, position 1, with the words after its header, handed over as a kind. -/
def slip (k : SlipKind) (words : List Word) (s : State) : State :=
  { s with slip := { s.slip with service := some ⟨1, 0, packBytes 0 0 1 0 :: words, false, .dispatched k, .nothing⟩ } }

/-- The same for agent 0 and the chief's position 0. -/
def chiefSlip (k : SlipKind) (words : List Word) (s : State) : State :=
  { s with slip := { s.slip with service := some ⟨0, 0, packBytes 0 0 0 0 :: words, false, .dispatched k, .nothing⟩ } }

/-- Words 5, 6 and 7 of the result that waits. -/
def answer (s : State) : Option (Word × Word × Word) :=
  match s.slip.request with
  | some (.result _ a b c) => some (a, b, c)
  | _ => none

/-! ### Well-formed commands -/

/-- Table 11-3: item 0Ch has six data bytes, item 02h two, and item 20h is read only. -/
theorem test_ill_settingWrite : (Instr.settingWrite 0x0C 0 [1, 2]).wellFormed = false ∧ (Instr.settingWrite 0x02 0 [1]).wellFormed = false
    ∧ (Instr.settingWrite 0x20 0 [1]).wellFormed = false ∧ (Instr.settingWrite 0xA0 0 []).wellFormed = true
    ∧ (Instr.settingWrite 0x02 0 [1, 2]).wellFormed = true := by decide
theorem test_ill_widthEntryWrite : (Instr.widthEntryWrite 0 [0x41]).wellFormed = false := by decide
theorem test_ill_wireLineWrite : (Instr.wireLineWrite 0 [1, 7, 1, 1, 0]).wellFormed = false := by decide
theorem test_ill_maximumRateWrite : (Instr.maximumRateWrite []).wellFormed = false := by decide
theorem test_ill_answerTimeoutWrite : (Instr.answerTimeoutWrite []).wellFormed = false := by decide
theorem test_ill_faultBankClear : (Instr.faultBankClear 0 []).wellFormed = false := by decide
theorem test_ill_arbiterDecision : (Instr.arbiterDecision false ⟨[6], 0⟩).wellFormed = false := by decide
theorem test_ill_editionDeadline : (Instr.editionDeadline 0).wellFormed = false ∧ (Instr.editionDeadline 5).wellFormed = false
    ∧ (Instr.editionDeadline 4).wellFormed = true := by decide
theorem test_ill_character : (Instr.character 0 ⟨0, false, true, some ⟨7, 7, 1, 1⟩⟩).wellFormed = false
    ∧ (Instr.character 0 ⟨0, false, true, none⟩).wellFormed = true := by decide
theorem test_ill_accept : (Instr.accept []).wellFormed = false := by decide
theorem test_ill_setAnswer : (Instr.setAnswer []).wellFormed = false := by decide
theorem test_ill_refuseAnswer : (Instr.refuseAnswer []).wellFormed = false := by decide
theorem test_ill_badFrame : (Instr.badFrame []).wellFormed = false := by decide

/-! ### The step, reset and the invariants (O1 to O10) -/

/-- O1: a waiting command, and no command. -/
theorem test_step_front : step { base with pending := [.passive, .read 0 0] } = exec .passive { base with pending := [.read 0 0] }
    ∧ step State.reset = .next State.reset := ⟨rfl, rfl⟩

/-- R3, R183: what a step does from power-on: a COLD RESTART with the default settings passes its check. -/
theorem test_cold_from_reset : (after .coldRestart State.reset).setup.outcome = 1 ∧ (after .coldRestart State.reset).active = true := by
  decide +kernel

/-- A specced and counted story on the first placement of a page. -/
def placed : Story :=
  { custody := .held 1, chain := [16], placements := [(1, some (0, 0))],
    fit := { spec := some ⟨20, 24, 400, 0, 0⟩, state := .current, lines := 3, outcomes := [(1, ⟨.fits, 4, 0, none⟩)] } }

/-- The page it stands on. -/
def page7 : Page :=
  { inUse := true, edition := 1, number := 7, state := .queued, placements := [(0, ⟨1, 1, 2, 100, .refuse, none⟩)] }

/-- A part with that page in the output queue. -/
def queued : State :=
  { base with dir := { base.dir with stories := [(1, placed)] }, page := { pages := [(0, page7)], queue := [0] } }

/-- O4. -/
theorem test_tablesCanonical_witness : queued.tablesCanonical ∧ step queued = .next queued := by
  unfold State.tablesCanonical
  exact ⟨by decide +kernel, rfl⟩

/-- O5. -/
theorem test_banksSound_witness : ({ base with fault := { store := ⟨true, false, true, true, 1, 64, 1⟩ } } : State).banksSound := by
  intro n
  cases n <;> (unfold Bank.sound; decide)

/-- O6. -/
theorem test_ranges_witness : ({ base with clock := { tod := 86399, ms := 999 } } : State).clockInRange ∧ base.settingsInRange := by
  have h : base.entriesInRange := by
    unfold State.entriesInRange Line.inRange
    decide +kernel
  unfold State.clockInRange State.settingsInRange Regions.inRange
  simp only [h, and_true]
  decide +kernel

/-- O7. -/
theorem test_listsBounded_witness : base.listsBounded := by
  refine ⟨by decide +kernel, fun p => ?_, fun k => ?_⟩
  · by_cases h0 : 0 = p
    · subst h0; decide
    · by_cases h1 : 1 = p
      · subst h1; decide
      · simp [State.position, base, tget, h0, h1]
  · exact Nat.zero_le _

/-- O8. -/
theorem test_outputQueueSound_witness : queued.outputQueueSound := by
  have hk : ∀ k, k ≠ 0 → queued.pageAt k = {} := fun k h => by simp [State.pageAt, queued, tget, Ne.symm h]
  refine ⟨by decide, by decide, fun k => ?_, fun k h => ?_, fun k h => ?_⟩
  · by_cases h : k = 0
    · subst h; decide
    · rw [hk k h]; simp [queued, h]
  · by_cases h0 : k = 0
    · subst h0; decide
    · rw [hk k h0] at h; cases h
  · simp only [queued, List.mem_singleton] at h
    subst h; decide

/-- O9, O10: a command that stores nothing; a WRITE that changes a byte of a held story's block. -/
theorem test_write_held : storing .noopSlip = false ∧ ({ base with path := { base.path with port := some .pass } } : State).region 16388 = .copyArea
    ∧ (after (.write 1 16389 0xF 0x44434241 (some 1)) { base with path := { base.path with port := some .pass } }).byte 16389 = 0x42 := by
  decide +kernel

/-! ### The header check (O11) -/

/-- R114: HELLO-REQ to drop 0: data 000003h has data bits 0 and 1, numbers 3 and 5: check bits 0 to 4 are 6, four 1-bits in all, so bit 5 is 0. -/
theorem test_header_check : headerCheck 3 = 6 ∧ checkHeader (makeHeader 3 0 0) = .used 3 false
    ∧ checkHeader (makeHeader 3 0 0 ^^^ 1) = .used 3 true ∧ checkHeader (makeHeader 3 0 0 ^^^ 0x20000000) = .used 3 true
    ∧ checkHeader (makeHeader 3 0 0 ^^^ 0x20000001) = .discarded ∧ checkHeader 0x40000000 = .discarded := by decide +kernel

/-! ### Settings and fault banks (O12 to O17) -/

/-- O12: Table 1-8 and R60: clamped values at the ends of their ranges; read-only item 20h is disregarded, and so are missing data bytes. -/
theorem test_settings_clamp : (after (.settingWrite 1 0 [7]) base).setup.staged.storeMiB = 8
    ∧ (after (.settingWrite 3 0 [63, 0]) base).setup.staged.copyCount = 64
    ∧ (after (.settingWrite 9 0 [61]) base).desk.recallGuard = 60
    ∧ (after (.settingWrite 0xA 0 [99, 0]) base).desk.bracketLimit = 100
    ∧ after (.settingWrite 0x20 0 [1]) base = base ∧ after (.settingWrite 2 0 [1]) base = base := by decide +kernel

theorem test_settings_zero_idle : (after (.settingWrite 0xB 0 [0, 0]) base).links.idle = 0
    ∧ (after (.settingWrite 0xB 0 [1, 0]) base).links.idle = 500 := by decide +kernel

/-- R75: a width entry is clamped to 1 to 36; one that differs queues the placed story's count. -/
theorem test_width_write : (after (.widthEntryWrite 9 [0x1F, 40]) queued).width 3 0x20 = 36
    ∧ (after (.widthEntryWrite 9 [0x1F, 40]) queued).fit.queue = [1]
    ∧ (after (.widthEntryWrite 0 [0x41, 9]) queued).fit.queue = [] := by decide +kernel

/-- R130, R132: the settings are clamped; clearing the enable is taken as a break. -/
theorem test_wire_line_write : (after (.wireLineWrite 9 [7, 6, 3, 0, 16, 1]) base).line 7 = { rate := 6, dataBits := 7, parity := 2, stopBits := 1, desk := 15, enable := true }
    ∧ ((after (.wireLineWrite 0 [3, 7, 1, 1, 0, 0]) { base with intake := { lines := [(0, { enable := true })] } }).line 0).fifo = [.mark .brk] := by
  decide +kernel

/-- O13: R168, R169: DOWN in ACTIVE, a start; an attempt in progress is reported RESTART and a frame in progress ends first. -/
theorem test_rate_write : (after (.maximumRateWrite [9]) base).set.tx = some (.offer 5)
    ∧ (after (.answerTimeoutWrite [0]) base).set.answerTimeout = 1 ∧ (after (.answerTimeoutWrite [0]) base).set.state = .starting
    ∧ (after (.maximumRateWrite [2]) { base with set := { state := .sending, attempt := some ⟨1, 1, 1, 0, []⟩, tx := some (.placeEnd 0) } }).notices
      = [.outcome .restart]
    ∧ (after (.maximumRateWrite [2]) { base with set := { state := .sending, attempt := some ⟨1, 1, 1, 0, []⟩, tx := some (.placeEnd 0) } }).set.startDue
      = true := by decide +kernel

/-- O14: the first record of an enabled bank asserts the latch; a corrected one after it leaves the code; a clear and the summary. -/
def faulty : State := { base with notices := [.fault ⟨.wire, 2, 5, true, true⟩, .fault ⟨.wire, 1, 6, true, false⟩] }

theorem test_fault_record : faulty.oldest (fun | .fault _ => true | _ => false) (.fault ⟨.wire, 2, 5, true, true⟩) [.fault ⟨.wire, 1, 6, true, false⟩]
    ∧ (after .faultRecord faulty).fault.latch = true
    ∧ (after .faultRecord (after .faultRecord faulty)).fault.wire = ⟨true, true, true, true, 2, 5, 2⟩ :=
  ⟨State.oldest_head _ _ _ _ rfl rfl, by decide +kernel, by decide +kernel⟩

theorem test_fault_clear_and_summary : (after (.faultBankClear 2 [0]) (after .faultRecord faulty)).fault.wire = {}
    ∧ (after .faultSummary (after .faultRecord faulty)).setup.dataOut = [0x14] ∧ (after .faultSummary (after .faultRecord faulty)).fault.latch = false := by
  decide +kernel

/-- O15: FAULTS with a clear flag from the privileged agent 0, and from agent 1. -/
theorem test_faults : (chiefSlip .faults [packBytes 2 1 0 0] faulty).handed .faults ⟨0, 0, [0, packBytes 2 1 0 0], false, .dispatched .faults, .nothing⟩
    ∧ answer (after .faultsSlip (chiefSlip .faults [packBytes 2 1 0 0] (after .faultRecord faulty))) = some (packNat 5, packNat 1, result 0x10 0xD 2 0)
    ∧ (after .faultsSlip (chiefSlip .faults [packBytes 2 1 0 0] (after .faultRecord faulty))).fault.wire = {}
    ∧ answer (after .faultsSlip (slip .faults [packBytes 2 1 0 0] faulty)) = some (0, 0, result 0x16 0 0 0)
    ∧ answer (after .faultsSlip (slip .faults [packBytes 4 0 0 0] faulty)) = some (0, 0, result 0x13 1 0 0) :=
  ⟨⟨rfl, rfl⟩, by decide +kernel, by decide +kernel, by decide +kernel, by decide +kernel⟩

/-- O16: R182's tests in order: Copy Area beyond the store, Slip Area beyond it, an overlap of one block, and the defaults. -/
theorem test_structural_check : (⟨4, 0, 4097, 0⟩ : Regions).check = 2 ∧ (⟨4, 0, 64, 4089⟩ : Regions).check = 3 ∧ (⟨4, 0, 64, 63⟩ : Regions).check = 4
    ∧ (⟨4, 0, 64, 64⟩ : Regions).check = 1 ∧ (⟨4, 0, 4096, 0⟩ : Regions).check = 4 ∧ (⟨4, 0, 64, 4088⟩ : Regions).check = 1 := by decide +kernel

theorem test_restarts : (after .coldRestart { base with setup := { base.setup with staged := ⟨4, 0, 4097, 0⟩ } }).setup.outcome = 2
    ∧ (after .coldRestart base).dir = {} ∧ (after .passive base).setup.partState = .passive ∧ (after .passive State.reset).setup.lastCommand = 3
    ∧ (after .powerOn base).setup = {} ∧ (after .coldRestart (after (.write 1 16388 0xF 7 (some 1)) { base with path := { base.path with port := some .pass } })).wordAt 16388 = 7 := by
  decide +kernel

/-- O17: a warm restart in PASSIVE, and in ACTIVE with an open bracket, a page SENDING, a take in BODY and a count. -/
def sending7 : Page :=
  { page7 with
    state := .sending
    placements := [(0, ⟨1, 1, 2, 100, .refuse, some ⟨20, 24, 400, 0, 3, 4, false, 0, 3, [16], 1024, true, false, false⟩⟩)] }

def working : State :=
  { queued with
    dir := { queued.dir with stories := [(1, { placed with bracketRef := some 3 }), (2, { custody := .intake 0, chain := [17] })] }
    desk := { brackets := [(3, ⟨true, 1, 1, 5, 100⟩)] }
    page := { queued.page with pages := [(0, sending7)] }
    intake := { lines := [(0, { enable := true, take := .body, story := 2, fifo := [.char 0x41 false] })] }
    set := { state := .sending, rate := 4, attempt := some ⟨1, 7, 1, 1000, []⟩ } }

theorem test_warm : (after .warmRestart State.reset).setup.outcome = 5 ∧ (after .warmRestart working).setup.outcome = 1
    ∧ working.sendingPage = some 0 ∧ ((after .warmRestart working).pageAt 0).state = .queued
    ∧ ((after .warmRestart working).pageAt 0).lastOutcome = .restart ∧ ((after .warmRestart working).bracketAt 3).inUse = false
    ∧ ((after .warmRestart working).line 0).take = .ending ∧ ((after .warmRestart working).link 15).wakeTry = 1
    ∧ (after .warmRestart working).set.tx = some (.offer 5) := by decide +kernel

/-! ### The store path (O18 to O22) -/

/-- The port granted to the pass-through. -/
def open_ (s : State) : State := { s with path := { s.path with port := some .pass } }

/-- R4, Table 1-8: the regions at their edges: Slip Area 0 to 8,191, Copy Area blocks 16 to 79, Open Area between and above, 16 MiB fitted. -/
theorem test_regions : base.region 8191 = .slipArea ∧ base.region 8192 = .openArea ∧ base.region 16383 = .openArea ∧ base.region 16384 = .copyArea
    ∧ base.region 81919 = .copyArea ∧ base.region 81920 = .openArea ∧ base.region 16777216 = .beyond
    ∧ ({ base with setup := { base.setup with partState := .passive } } : State).region 16384 = .openArea := by decide +kernel

/-- O18: a READ of a word that decodes clean, CORRECTED (offered to the scrub) and UNCORRECTED, and one beyond 4 MiB. -/
theorem test_read : (open_ base).granted ∧ (after (.read 3 0x4001) (open_ base)).path.answer = some ⟨3, .done, some 0⟩
    ∧ (after (.read 3 0x4000) (open_ { base with flaws := [(0x4000, .corrected)] })).path.scrubQueue = [0x4000]
    ∧ (after (.read 3 0x4000) (open_ { base with flaws := [(0x4000, .uncorrected)] })).path.answer = some ⟨3, .fail, none⟩
    ∧ (after (.read 3 0x400000) (open_ { base with path := { regions := ⟨4, 16, 64, 0⟩ } })).refusalOf 3 = ⟨1, 0x400000, .beyond⟩ :=
  ⟨⟨rfl, rfl⟩, by decide +kernel, by decide +kernel, by decide +kernel, by decide +kernel⟩

/-- O19: R6: word 7 of slot 15 of agent 1's ring written with POSTED sends its posting notice; a held story's write sends its notices. -/
theorem test_write_lands : (after (.write 1 (512 + 480 + 28) 0xF 1 none) (open_ base)).notices = [.posting 1 15]
    ∧ (after (.write 1 (512 + 480 + 28) 0xF 2 none) (open_ base)).notices = []
    ∧ (after (.write 1 16384 0xF 5 (some 1)) (open_ queued)).notices
      = [.screenWrite ⟨1, 0, 0, 0, 1, 1⟩, .fitWrite ⟨1, 0, 0, 0, 1, 1⟩, .deskWrite ⟨1, 0, 0, 0, 1, 1⟩, .pageWrite ⟨1, 0, 0, 0, 1, 1⟩]
    ∧ (after (.write 9 0x2000 0xF 0x04030201 none) (open_ base)).mem = [(0x2000, 1), (0x2001, 2), (0x2002, 3), (0x2003, 4)]
    ∧ base.testWrite 9 0x2000 none = .go .openArea ∧ (after (.write 9 0x2000 0 5 none) (open_ base)).path.answer = some ⟨9, .done, none⟩ := by
  decide +kernel

/-- R10: one enabled byte merged into a clean word, and into one that does not decode. -/
theorem test_write_merges : (after (.write 9 0x2000 0b0100 0x00AA0000 none) (open_ base)).mem = [(0x2002, 0xAA)]
    ∧ (after (.write 9 0x2000 1 5 none) (open_ { base with flaws := [(0x2000, .uncorrected)] })).path.answer = some ⟨9, .fail, none⟩
    ∧ (after (.write 9 0x2000 1 5 none) (open_ { base with flaws := [(0x2000, .corrected)] })).notices = [.fault ⟨.store, 2, 0x2000, true, false⟩] := by
  decide +kernel

/-- O20: each REFUSE and RETRY of R25, and their records. -/
theorem test_write_refused : (after (.write 2 512 0xF 1 none) (open_ base)).refusalOf 2 = ⟨1, 512, .ringowner⟩
    ∧ (after (.write 1 (21 * 1024) 0xF 1 (some 1)) (open_ base)).refusalOf 1 = ⟨1, 21 * 1024, .unowned⟩
    ∧ (after (.write 1 16384 0xF 1 none) (open_ base)).refusalOf 1 = ⟨1, 16384, .notholder⟩
    ∧ (after (.write 1 16384 0xF 1 (some 0)) (open_ base)).refusalOf 1 = ⟨1, 16384, .notholder⟩
    ∧ (after (.write 2 16384 0xF 1 (some 1)) (open_ base)).refusalOf 2 = ⟨1, 16384, .wrongagent⟩
    ∧ (after (.write 1 16384 0xF 1 (some 1)) (open_ working)).path.answer = some ⟨1, .retry, none⟩
    ∧ (after (.write 1 16384 0xF 1 (some 1)) (open_ working)).notices = [.retryReport 1] := by decide +kernel

theorem test_write_filling : (after (.write 1 17408 0xF 1 (some 1)) (open_ { base with dir := { base.dir with
    stories := [(2, { custody := .held 1, chain := [17, 18], filling := some 0 })] } })).path.answer = some ⟨1, .retry, none⟩ := by decide +kernel

/-- O21: R8: the pair opens, its LOCKED-WRITE closes it, another agent meets RETRY, and its second tick closes it. -/
def paired : State := after (.lockedRead 1 16384 (some 1)) (open_ base)

theorem test_pair : (open_ base).testWrite 1 16384 (some 1) = .go (.accepted 1 0) ∧ paired.path.pair = some ⟨1, 16384, .accepted 1 0, 0⟩
    ∧ (after (.lockedWrite 1 16384 0xF 9 none) paired).wordAt 16384 = 9 ∧ (after (.lockedWrite 1 16384 0xF 9 none) paired).path.pair = none
    ∧ (after (.read 2 0) paired).path.answer = some ⟨2, .retry, none⟩ ∧ (after (.read 2 0) paired).path.pair = paired.path.pair
    ∧ (after (.write 1 0x2000 0xF 3 none) paired).path.pair = none ∧ (after (.write 1 0x2000 0xF 3 none) paired).wordAt 0x2000 = 3 := by decide +kernel

theorem test_pair_closes : (after .lockedPairTimeout { paired with path := { paired.path with pair := some ⟨1, 16384, .accepted 1 0, 2⟩ } }).path.pair = none
    ∧ after .lockedPairTimeout { paired with path := { paired.path with pair := some ⟨1, 16384, .accepted 1 0, 1⟩ } }
      = { paired with path := { paired.path with pair := some ⟨1, 16384, .accepted 1 0, 1⟩ } } := by decide +kernel

/-- R8: a SEND of the pair's story waits for the close; a pick held for it is tested again. -/
theorem test_deferred : ((after .sendSlip (slip .send [1, 0] paired)).slip.service.map (·.phase)) = some (.held .send)
    ∧ answer (after .deferredWorkAtPairClose { after .sendSlip (slip .send [1, 0] paired) with path := { base.path with pair := none } })
      = some (packNat 0, packNat 2, result 0x10 0 0 0)
    ∧ (after .deferredWorkAtPairClose { queued with page := { queued.page with pickHeld := true } }).page.pickHeld = false := by decide +kernel

/-- O22: R16: the pass-through with an own request waiting at streak 3 gives way to it; the order of Table 1-9; a failed bit. -/
def asking : State := { base with path := { base.path with streak := 3, scrubQueue := [64] }, fit := { request := some 16384 } }

theorem test_arbiter : (after (.arbiterDecision true ⟨[], 0⟩) asking).path.port = some (.scrub 64)
    ∧ (after (.arbiterDecision true ⟨[], 0⟩) { asking with path := { base.path with streak := 3 } }).path.port = some (.fit 16384)
    ∧ (after (.arbiterDecision true ⟨[], 0⟩) { asking with path := { base.path with streak := 2 } }).path.streak = 3
    ∧ (after (.arbiterDecision true ⟨[], 0⟩) base).path.port = some .pass ∧ after (.arbiterDecision false ⟨[], 0⟩) base = base
    ∧ (after (.arbiterDecision true ⟨[65], 0⟩) (after (.arbiterDecision false ⟨[], 0⟩) asking)).ecc 64 = .corrected
    ∧ after (.read 0 0) (after (.arbiterDecision false ⟨[], 0⟩) asking) = after (.arbiterDecision false ⟨[], 0⟩) asking := by decide +kernel

theorem test_arbiter_order : (after (.arbiterDecision false ⟨[], 0⟩) { base with set := { request := some 1 }, intake := { requests := [⟨0, 1, 0, 0, false, []⟩] } }).path.port
      = some (.set 1)
    ∧ (after (.arbiterDecision false ⟨[], 0⟩) { base with intake := { requests := [⟨0, 1, 0, 0, false, []⟩] }, screen := { requests := [⟨0, 0⟩] } }).path.port
      = some (.intake ⟨0, 1, 0, 0, false, []⟩)
    ∧ (after (.arbiterDecision false ⟨[], 0⟩) { base with screen := { requests := [⟨0, 0⟩] }, slip := { request := some (.fill 0) } }).path.port
      = some (.screen ⟨0, 0⟩)
    ∧ (after (.arbiterDecision false ⟨[], 0⟩) { base with slip := { request := some (.fill 0) }, fit := { request := some 1 } }).path.port
      = some (.slip (.fill 0)) := by decide +kernel

/-- R11: the three ways a scrubbed word decodes. -/
def scrubbing (e : Ecc) : State := { base with path := { base.path with port := some (.scrub 64), scrubQueue := [64, 68] }, flaws := [(64, e)] }

theorem test_scrub : (after .scrub { scrubbing .corrected with flaws := [] }).path.scrubQueue = [68]
    ∧ (after .scrub (scrubbing .corrected)).flaws = [] ∧ (after .scrub (scrubbing .uncorrected)).notices = [.fault ⟨.store, 3, 64, true, true⟩]
    ∧ (after .scrub (scrubbing .uncorrected)).ecc 64 = .uncorrected := by decide +kernel

/-! ### Slips (O23 to O28) -/

/-- O23: R38, R39: a slot posted, posted again, and chosen after the pointer. -/
theorem test_posting : (after .postingNotice { base with notices := [.posting 1 15] }).pendingOf 1 = [15]
    ∧ (after .postingNotice { base with notices := [.posting 1 15], slip := { pendingLists := [(1, [15])] } }).pendingOf 1 = [15]
    ∧ (after .postingNotice { base with notices := [.posting 1 15], slip := { abandon := [(1, 15)] } }).slip.heldPosts = [(1, 15)]
    ∧ ({ base with notices := [.posting 1 15] } : State).oldest (fun | .posting _ _ => true | _ => false) (.posting 1 15) [] :=
  ⟨by decide +kernel, by decide +kernel, by decide +kernel, State.oldest_head _ _ _ _ rfl rfl⟩

theorem test_slip_choice : (after .slipChoice { base with slip := { pendingLists := [(1, [15, 3]), (4, [2])], nextAgent := 2 } }).slip.request
      = some (.capture (4 * 512 + 64))
    ∧ (after .slipChoice { base with slip := { pendingLists := [(1, [15, 3])], nextAgent := 2 } }).slip.nextAgent = 2
    ∧ (after .slipChoice { base with slip := { pendingLists := [(1, [15, 3])], nextAgent := 2 } }).pendingOf 1 = [3]
    ∧ after .slipChoice base = base := by decide +kernel

/-- A capture of slot 0 of agent 1 with its header word, word 7 POSTED, and two words that do not decode clean. -/
def capturing (header : Word) (flaws : Table Ecc) : State :=
  { base with
    mem := ((base.putWord 512 header).putWord 540 1).mem
    flaws := flaws
    path := { base.path with port := some (.slip (.capture 512)) }
    slip := { service := some ⟨1, 0, [], false, .capturing, .nothing⟩ } }

/-- O24: R40, R41: handed over, withdrawn, and each common check; an uncorrectable word 0 or 6. -/
theorem test_capture : (after .capture (capturing (packBytes 0 0x80 0 0) [])).slip.service.map (fun v => (v.phase, v.attention)) = some (.dispatched .noop, true)
    ∧ (after .capture { capturing 0 [] with mem := [] }).slip.service = none
    ∧ answer (after .capture (capturing (packBytes 0 6 0 0) [])) = some (0, 0, result 0x11 0 0 0)
    ∧ answer (after .capture (capturing (packBytes 9 5 0 0) [])) = some (0, 0, result 0x12 0 0 0)
    ∧ answer (after .capture (capturing (packBytes 0 6 0 0) [(512, .uncorrected)])) = some (0, 0, result 0x13 0 1 0)
    ∧ answer (after .capture (capturing (packBytes 0 0 0 0) [(536, .uncorrected)])) = some (0, 0, result 0x13 6 1 0) := by decide +kernel

theorem test_capture_positions : answer (after .capture (capturing (packBytes 8 1 0x80 0) [])) = some (0, 0, result 0x14 0 0 0)
    ∧ answer (after .capture (capturing (packBytes 8 1 5 0) [])) = some (0, 0, result 0x14 0 0 0)
    ∧ answer (after .capture (capturing (packBytes 8 1 0 0) [])) = some (0, 0, result 0x15 0 0 0)
    ∧ kindOf 1 8 = some .send ∧ SlipKind.forPosition .send = true := by decide +kernel

/-- O25: R42, R50: a result lands in words 5 to 7 and the pulse follows the attention flag; the last ABANDONED result lists the held posts. -/
theorem test_result_write :
    let s : State := { base with path := { base.path with port := some (.slip (.result 512 1 2 3)) },
                                 slip := { service := some ⟨1, 0, [], true, .answered, .nothing⟩ } }
    (after .resultWrite s).wordAt 532 = 1 ∧ (after .resultWrite s).wordAt 540 = 3 ∧ (after .resultWrite s).slip.service = none
      ∧ (after .resultWrite s).slip.attention = [(1, true)] ∧ (after (.attentionPulseEnd 1) (after .resultWrite s)).slip.attention = [] := by
  decide +kernel

theorem test_abandoned :
    let s : State := { base with path := { base.path with port := some (.slip (.abandoned 512)) },
                                 slip := { abandon := [(1, 0), (2, 4)], affected := [1, 2], heldPosts := [(3, 7)] } }
    let t : State := { s with slip := { s.slip with abandon := [(1, 0)] } }
    (after .abandonedResult s).wordAt 540 = result 0x28 0 0 0 ∧ (after .abandonedResult s).slip.request = some (.abandoned (1024 + 128))
      ∧ (after .abandonedResult t).slip.attention = [(1, true), (2, true)] ∧ (after .abandonedResult t).pendingOf 3 = [7] := by decide +kernel

/-- O26, O27: R46, R47: NOOP, and CLOCK at 86,399 and 86,400. -/
theorem test_noop_clock : answer (after .noopSlip (slip .noop [] base)) = some (packNat 1000, 1, result 0x10 0 0 0)
    ∧ (after .clockSlip (chiefSlip .clock [86399] base)).clock.tod = 86399
    ∧ answer (after .clockSlip (chiefSlip .clock [86399] base)) = some (packNat 1000, 1, result 0x10 0 0 0)
    ∧ answer (after .clockSlip (chiefSlip .clock [86400] base)) = some (0, 0, result 0x13 1 0 0) := by decide +kernel

/-- R48, R147: editions 1 and 4, the four actions, and a deadline reached. -/
theorem test_edition : answer (after .editionSlip (slip .edition [packBytes 4 0 0 0, 500] base)) = some (1, 500, result 0x10 0 0 0)
    ∧ (after .editionSlip (slip .edition [packBytes 1 3 0 0, 0] base)).notices = [.edition 1 true]
    ∧ answer (after .editionSlip (slip .edition [packBytes 5 0 0 0, 0] base)) = some (0, 0, result 0x13 1 0 0)
    ∧ answer (after .editionSlip (slip .edition [packBytes 1 0 0 0, 86400] base)) = some (0, 0, result 0x13 2 0 0)
    ∧ answer (after .editionSlip (slip .edition [packBytes 1 1 0 0, 0] base)) = some (1, 0xFFFFFFFF, result 0x10 0 0 0) := by decide +kernel

theorem test_deadline :
    let s : State := { base with page := { editions := [(2, ⟨true, some 60⟩)] }, clock := { deadlineTicks := [(1, 60), (2, 60)] } }
    ((after (.editionDeadline 2) s).editionOf 2).isOpen = false ∧ (after (.editionDeadline 2) s).clock.deadlineTicks = [(1, 60)]
      ∧ (after (.editionDeadline 1) s).notices = [] := by decide +kernel

/-- O28: R14: a record of agent 2 read by itself, by the privileged agent 0, and by agent 1. -/
theorem test_pathstat :
    let s : State := { base with path := { base.path with refusals := [(1, ⟨3, 512, .ringowner⟩)] } }
    answer (after .pathstatSlip (slip .pathstat [1] s)) = some (512, 2, result 0x10 3 0 0) ∧ (after .pathstatSlip (slip .pathstat [1] s)).path.refusals = []
      ∧ answer (after .pathstatSlip (chiefSlip .pathstat [1] s)) = some (512, 2, result 0x10 3 0 0)
      ∧ answer (after .pathstatSlip (slip .pathstat [15] s)) = some (0, 0, result 0x16 0 0 0)
      ∧ answer (after .pathstatSlip (slip .pathstat [16] s)) = some (0, 0, result 0x13 1 0 0) := by decide +kernel

/-! ### Stories and desks (O29 to O38) -/

/-- O29: R28: the tests of POSITION at the ends of their ranges; a position with a story in its hand keeps its agent; a new drop marks 24 rows. -/
theorem test_position : answer (after .positionSlip (chiefSlip .position [128, 0, 0] base)) = some (0, 0, result 0x13 1 0 0)
    ∧ answer (after .positionSlip (chiefSlip .position [2, packBytes 1 16 0 0, 0] base)) = some (0, 0, result 0x13 2 0 0)
    ∧ answer (after .positionSlip (chiefSlip .position [2, packBytes 1 0 0 0, packBytes 0 8 0 0] base)) = some (0, 0, result 0x13 3 0 0)
    ∧ answer (after .positionSlip (chiefSlip .position [2, packBytes 1 0 0 0, packBytes 0 1 0 0] base)) = some (0, 0, result 0x13 3 0 0)
    ∧ answer (after .positionSlip (chiefSlip .position [1, packBytes 1 0 2 0, packBytes 0 1 0 0] base)) = some (0, 0, result 0x19 0 0 0)
    ∧ (after .positionSlip (chiefSlip .position [127, packBytes 1 15 15 1, packBytes 15 7 0 0] base)).position 127 = ⟨true, 15, 15, 15, 7, true, []⟩
    ∧ (after .positionSlip (chiefSlip .position [127, packBytes 1 15 15 1, packBytes 15 7 0 0] base)).dirtyMap 127 = 0xFFFFFF := by decide +kernel

theorem test_position_desk_change : (after .positionSlip (chiefSlip .position [1, packBytes 1 3 1 0, packBytes 0 1 0 0] base)).dirtyMap 1 = 0x800000
    ∧ (after .positionSlip (chiefSlip .position [0, 0, 0] { base with screen := { dirty := [(0, 5)] } })).dirtyMap 0 = 0 := by decide +kernel

/-- R29: a name byte outside 20h to 7Eh becomes a space; a changed name marks the basket rows of its positions. -/
theorem test_desk : (after .deskSlip (chiefSlip .desk [0, packBytes 0x43 0x49 0x54 0x59, packBytes 0x7F 0x31 0 0, 1] base)).deskEntry 0
      = ⟨[0x43, 0x49, 0x54, 0x59, 0x20, 0x31], true⟩
    ∧ (after .deskSlip (chiefSlip .desk [0, packBytes 0x43 0x49 0x54 0x59, packBytes 0x7F 0x31 0 0, 1] base)).dirtyMap 1 = 0x800000
    ∧ answer (after .deskSlip (chiefSlip .desk [16, 0, 0, 0] base)) = some (0, 0, result 0x13 1 0 0)
    ∧ answer (after .deskSlip (chiefSlip .desk [0, 0, 0, 2] base)) = some (0, 0, result 0x13 4 0 0) := by decide +kernel

/-- O30: R30: the lowest FREE entry is 5, the lowest free block 21; a full hand; no free block. -/
theorem test_open : let t := after .openSlip (slip .openStory [packBytes 0x41 0x42 0 0, 0, 0] base)
    t.story 5 = { custody := .held 1, slug := [0x41, 0x42] ++ List.replicate 10 0x20, chain := [21], filling := some 0, entryTime := 1000, takeTime := 1000 }
      ∧ (t.position 1).hand = [1, 2, 5] ∧ t.slip.request = some (.fill (21 * 1024)) ∧ t.blockEntry 21 = ⟨5, 0⟩ ∧ t.notices = [.hand 1]
      ∧ answer (after .openSlip (slip .openStory [0, 0, 0] { base with dir := { base.dir with positions := [(1, ⟨true, 0, 1, 0, 1, false, [1, 2, 3, 4, 5, 6, 7, 8]⟩)] } }))
        = some (0, 0, result 0x1A 0 0 0)
      ∧ answer (after .openSlip (slip .openStory [0, 0, 0] { base with path := { regions := ⟨16, 16, 5, 0⟩ } })) = some (0, 0, result 0x1B 0 0 0) := by
  decide +kernel

/-- R31: the tests of EXTEND in order, k at 0, 1, 8 and 9. -/
theorem test_extend : answer (after .extendSlip (slip .extend [9, 1] base)) = some (0, 0, result 0x17 0 0 0)
    ∧ answer (after .extendSlip (slip .extend [3, 1] base)) = some (0, 0, result 0x18 0 0 0)
    ∧ answer (after .extendSlip (slip .extend [1, 0] base)) = some (0, 0, result 0x13 2 0 0)
    ∧ answer (after .extendSlip (slip .extend [1, 9] base)) = some (0, 0, result 0x13 2 0 0)
    ∧ answer (after .extendSlip (slip .extend [1, 1] working)) = some (0, 0, result 0x1D 0 0 0)
    ∧ ((after .extendSlip (slip .extend [2, 8] base)).story 2).chain = [17, 18, 21, 22, 23, 24, 25, 26, 27, 28]
    ∧ ((after .extendSlip (slip .extend [2, 8] base)).story 2).filling = some 2
    ∧ answer (after .extendSlip (slip .extend [2, 1] { base with path := { regions := ⟨16, 16, 5, 0⟩ } })) = some (0, 0, result 0x1B 0 0 0)
    ∧ ((after .extendSlip (slip .extend [1, 1] paired)).slip.service.map (·.phase)) = some (.held .extend) := by decide +kernel

theorem test_extend_too_long : answer (after .extendSlip (slip .extend [1, 1] { base with dir := { base.dir with stories := [(1, { custody := .held 1, chain := List.range' 16 64 })] } }))
    = some (0, 0, result 0x1C 0 0 0) := by decide +kernel

/-- O31: R22: the 16th fill line of an OPEN ends the filling and answers it; the first asks for the second. -/
def filling (k : Nat) : State :=
  let t := after .openSlip (slip .openStory [packBytes 0x41 0x42 0 0, 0, 0] base)
  { t with
    path := { t.path with port := some (.slip (.fill (21 * 1024 + k * 64))) }
    slip := { t.slip with service := t.slip.service.map fun v => { v with phase := .filling 5 [21] k } } }

theorem test_slip_fill : (after .slipFillGrant (filling 0)).slip.request = some (.fill (21 * 1024 + 64))
    ∧ ((after .slipFillGrant (filling 15)).story 5).filling = none ∧ answer (after .slipFillGrant (filling 15)) = some (5, 21, result 0x10 0 0 0)
    ∧ (after .slipFillGrant (filling 15)).notices = [.hand 1, .fitLength 5 1, .screenLength 5 1] := by decide +kernel

/-- R32: k at 0, 64 and 65; a TRIM that frees a block, and one that does not shorten. -/
theorem test_trim : (after .trimSlip (slip .trim [2, 1] base)).blockEntry 18 = ⟨0, 0⟩
    ∧ answer (after .trimSlip (slip .trim [2, 1] base)) = some (1, 1, result 0x10 0 0 0)
    ∧ (after .trimSlip (slip .trim [2, 1] base)).notices = [.fitLength 2 1, .screenLength 2 1]
    ∧ answer (after .trimSlip (slip .trim [2, 64] base)) = some (2, 0, result 0x10 0 0 0)
    ∧ answer (after .trimSlip (slip .trim [2, 0] base)) = some (0, 0, result 0x13 2 0 0)
    ∧ answer (after .trimSlip (slip .trim [2, 65] base)) = some (0, 0, result 0x13 2 0 0) := by decide +kernel

/-- O32: R33, R34: ADOPT's tests, its list read, a list that passes and one whose second block has an owner. -/
def listing (b : Nat) : State :=
  let t := chiefSlip .adopt [0x3000, packBytes 2 0 0 0, 0, 0, 0] base
  { t with
    mem := ((base.putWord 0x3000 30).putWord 0x3004 (packNat b)).mem
    path := { t.path with port := some (.slip (.listRead 0x3000 2)) }
    slip := { t.slip with service := t.slip.service.map fun v => { v with phase := .listing [] } } }

theorem test_adopt : (after .adoptSlip (chiefSlip .adopt [0x3000, packBytes 17 0 1 2, 0, 0, 0] base)).slip.request = some (.listRead 0x3000 16)
    ∧ answer (after .adoptSlip (chiefSlip .adopt [0x3002, packBytes 1 0 1 2, 0, 0, 0] base)) = some (0, 0, result 0x13 1 0 0)
    ∧ answer (after .adoptSlip (chiefSlip .adopt [0x3FFC, packBytes 2 0 1 2, 0, 0, 0] base)) = some (0, 0, result 0x13 1 0 0)
    ∧ answer (after .adoptSlip (chiefSlip .adopt [0x3000, packBytes 65 0 1 2, 0, 0, 0] base)) = some (0, 0, result 0x13 2 0 0)
    ∧ answer (after .adoptSlip (chiefSlip .adopt [0x3000, packBytes 1 0 2 2, 0, 0, 0] base)) = some (0, 0, result 0x14 0 0 0) := by decide +kernel

theorem test_adopt_list : answer (after .adoptListRead (listing 31)) = some (5, 2, result 0x10 0 0 0)
    ∧ ((after .adoptListRead (listing 31)).story 5).chain = [30, 31] ∧ (after .adoptListRead (listing 31)).blockEntry 31 = ⟨5, 1⟩
    ∧ answer (after .adoptListRead (listing 16)) = some (0, 0, result 0x13 1 5 0) ∧ answer (after .adoptListRead (listing 30)) = some (0, 0, result 0x13 1 4 0)
    ∧ answer (after .adoptListRead (listing 80)) = some (0, 0, result 0x13 1 3 0) ∧ answer (after .adoptListRead (listing 65536)) = some (0, 0, result 0x13 1 2 0)
    ∧ answer (after .adoptListRead { listing 31 with flaws := [(0x3000, .uncorrected)] }) = some (0, 0, result 0x13 0 1 0) := by decide +kernel

/-- O33: R35: stories 0, 2047 and 2048, and one in the intake of line 2. -/
theorem test_storystat : answer (after .storystatSlip (slip .storystat [0] base)) = some (0, 0, result 0x13 1 0 0)
    ∧ answer (after .storystatSlip (slip .storystat [2048] base)) = some (0, 0, result 0x13 1 0 0)
    ∧ answer (after .storystatSlip (slip .storystat [2047] base)) = some (0, 0, result 0x10 0 0 0)
    ∧ answer (after .storystatSlip (slip .storystat [4] base)) = some (packBytes 1 0 0 0, 0, result 0x10 1 2 2)
    ∧ answer (after .storystatSlip (slip .storystat [1] queued)) = some (packBytes 1 0 0 4, packBytes 0 1 3 0, result 0x10 3 1 2) := by decide +kernel

/-- O34: R52, R56: a ROUTINE story goes behind an URGENT one and a FLASH one before it; R57: the head of the basket taken. -/
theorem test_send : (after .sendSlip (slip .send [1, packBytes 0 2 0 0] base)).basketOf 0 = [3, 1]
    ∧ (after .sendSlip (slip .send [1, packBytes 0 0 0 0] base)).basketOf 0 = [1, 3]
    ∧ (after .sendSlip (slip .send [1, packBytes 15 2 0 0] base)).notices = [.hand 1, .basket 15]
    ∧ answer (after .sendSlip (slip .send [1, packBytes 16 2 0 0] base)) = some (0, 0, result 0x13 2 0 0)
    ∧ answer (after .sendSlip (slip .send [3, 0] base)) = some (0, 0, result 0x18 0 0 0)
    ∧ ((after .sendSlip (slip .send [1, 0] working)).story 1).lastBracket = .broken := by decide +kernel

theorem test_take : answer (after .takeSlip (slip .take [0, 0] base)) = some (3, 0, result 0x10 1 0 0)
    ∧ ((after .takeSlip (slip .take [0, 0] base)).position 1).hand = [1, 2, 3] ∧ (after .takeSlip (slip .take [0, 0] base)).basketOf 0 = []
    ∧ answer (after .takeSlip (slip .take [16, 0] base)) = some (0, 0, result 0x13 1 0 0)
    ∧ answer (after .takeSlip (slip .take [15, 0] base)) = some (0, 0, result 0x16 0 0 0)
    ∧ answer (after .takeSlip (slip .take [0, 1] base)) = some (0, 0, result 0x17 0 0 0)
    ∧ answer (after .takeSlip (slip .take [0, 0] { base with desk := {} })) = some (0, 0, result 0x20 0 0 0) := by decide +kernel

/-- O35: R58: the guard of 10 seconds: a story taken 9 and 10 seconds ago. -/
theorem test_recall : answer (after .recallSlip (chiefSlip .recall [1, 0] { base with clock := { tod := 9 } })) = some (1, 1, result 0x1F 0 0 0)
    ∧ answer (after .recallSlip (chiefSlip .recall [1, 0] { base with clock := { tod := 10 } })) = some (packBytes 0 1 0 0, 10, result 0x10 0 0 0)
    ∧ (after .recallSlip (chiefSlip .recall [1, packBytes 1 5 0 0] base)).basketOf 5 = [1]
    ∧ answer (after .recallSlip (chiefSlip .recall [3, packBytes 1 0 0 0] base)) = some (0, 0, result 0x22 0 0 0)
    ∧ answer (after .recallSlip (chiefSlip .recall [3, packBytes 0 0 0 0] base)) = some (packBytes 1 0 0 0, 0, result 0x10 0 0 0)
    ∧ answer (after .recallSlip (chiefSlip .recall [4, 0] base)) = some (0, 0, result 0x19 0 0 0) := by decide +kernel

/-- O36: R61: SPIKE by the holder, of another's story, of a basket's story by a position that is no chief, and of a placed story. -/
theorem test_spike : answer (after .spikeSlip (slip .spike [2] base)) = some (2, 61, result 0x10 0 0 0)
    ∧ (after .spikeSlip (slip .spike [2] base)).story 2 = {} ∧ (after .spikeSlip (slip .spike [2] base)).blockEntry 18 = ⟨0, 0⟩
    ∧ answer (after .spikeSlip (chiefSlip .spike [2] base)) = some (0, 0, result 0x18 0 0 0)
    ∧ answer (after .spikeSlip (slip .spike [3] base)) = some (0, 0, result 0x16 0 0 0)
    ∧ answer (after .spikeSlip (chiefSlip .spike [3] base)) = some (1, 60, result 0x10 0 0 0)
    ∧ answer (after .spikeSlip (slip .spike [1] queued)) = some (0, 0, result 0x1E 0 0 0) := by decide +kernel

/-- O37: R65, R66: the count is clamped to 4 and 64; a counted write, the last one, and the time limit. -/
theorem test_bracket : answer (after .bracketSlip (slip .bracket [1, 3] base)) = some (0, 4, result 0x10 0 0 0)
    ∧ answer (after .bracketSlip (slip .bracket [1, 65] base)) = some (0, 64, result 0x10 0 0 0)
    ∧ (after .bracketSlip (slip .bracket [1, 3] base)).bracketAt 0 = ⟨true, 1, 1, 4, 2000⟩
    ∧ (after .bracketSlip (slip .bracket [1, 3] base)).notices = [.screenOpening 1, .fitOpening 1, .pageOpening 1]
    ∧ answer (after .bracketSlip (slip .bracket [1, 3] working))
      = some (3, 5, result 0x22 0 0 0) := by decide +kernel

def counting (count timeLeft : Nat) : State :=
  { base with
    notices := [.deskWrite ⟨1, 0, 0, 0, 1, 1⟩], desk := { brackets := [(7, ⟨true, 1, 1, count, timeLeft⟩)] }
    dir := { base.dir with stories := [(1, { custody := .held 1, chain := [16], bracketRef := some 7 })] } }

theorem test_bracket_ends : (after .deskWriteNotice (counting 2 5)).bracketAt 7 = ⟨true, 1, 1, 1, 5⟩
    ∧ (after .deskWriteNotice (counting 1 5)).bracketAt 7 = {} ∧ ((after .deskWriteNotice (counting 1 5)).story 1).lastBracket = .full
    ∧ ((after (.bracketTimeExpiry 7) (counting 2 1)).story 1).lastBracket = .time ∧ after (.bracketTimeExpiry 7) (counting 2 2) = counting 2 2 := by
  decide +kernel

/-- O38: R53, R63: indexes 0 and 2,046, and desk 16. -/
theorem test_basketstat : answer (after .basketstatSlip (slip .basketstat [0, 0] base)) = some (packBytes 3 0 1 0, 100, result 0x10 1 0 0)
    ∧ answer (after .basketstatSlip (slip .basketstat [0, 2046] base)) = some (0, 100, result 0x10 1 0 0)
    ∧ answer (after .basketstatSlip (slip .basketstat [0, 2047] base)) = some (0, 0, result 0x13 2 0 0)
    ∧ answer (after .basketstatSlip (slip .basketstat [16, 0] base)) = some (0, 0, result 0x13 1 0 0)
    ∧ answer (after .basketstatSlip (slip .basketstat [15, 0] base)) = some (0, 0, result 0x10 0 0 0) := by decide +kernel

/-! ### Copyfitting (O39 to O42) -/

/-- Table 5-1: size 10 to 144 hp, mu = measure × 18 / size; R77: a measure of 36 at size 18 is the narrowest; one of 71 at size 36 is too narrow. -/
theorem test_spec : answer (after .specSlip (slip .spec [1, packHalves 9 300, packBytes 36 0 90 3] base)) = some (packBytes 64 0 46 0, packHalves 10 240, result 0x10 0 0 0)
    ∧ ((after .specSlip (slip .spec [1, packHalves 9 300, packBytes 36 0 90 3] base)).story 1).fit.spec = some ⟨10, 240, 36, 46, 3⟩
    ∧ (after .specSlip (slip .spec [1, packHalves 9 300, packBytes 36 0 90 3] base)).fit.queue = [1]
    ∧ answer (after .specSlip (slip .spec [1, packHalves 36 36, packBytes 71 0 0 0] base)) = some (35, 0, result 0x23 0 0 0)
    ∧ answer (after .specSlip (slip .spec [1, packHalves 36 36, packBytes 72 0 0 0] base)) = some (packBytes 36 0 0 0, packHalves 36 36, result 0x10 0 0 0)
    ∧ answer (after .specSlip (slip .spec [1, 0, packBytes 72 0 0 4] base)) = some (0, 0, result 0x13 3 0 0)
    ∧ answer (after .specSlip (slip .spec [4, 0, 0] base)) = some (0, 0, result 0x19 0 0 0) := by decide +kernel

theorem test_unspec : answer (after .unspecSlip (slip .unspec [1] queued)) = some (4, 0, result 0x10 0 0 0)
    ∧ ((after .unspecSlip (slip .unspec [1] queued)).story 1).fit = {} ∧ (after .unspecSlip (slip .unspec [1] queued)).notices = [.screenFit 1, .pageFit 1]
    ∧ answer (after .unspecSlip (slip .unspec [1] base)) = some (0, 0, result 0x22 0 0 0) := by decide +kernel

/-- O40: R94: parts 0, 1, 4, 5 and 6. -/
theorem test_fitstat : answer (after .fitstatSlip (slip .fitstat [1, 0] queued)) = some (packHalves 3 0, 0, result 0x10 4 0 0)
    ∧ answer (after .fitstatSlip (slip .fitstat [1, 1] queued)) = some (packHalves 4 0, 0, result 0x10 1 0 0)
    ∧ answer (after .fitstatSlip (slip .fitstat [1, 4] queued)) = some (0, 0, result 0x10 0 0 0)
    ∧ answer (after .fitstatSlip (slip .fitstat [1, 5] queued)) = some (packHalves 20 24, packBytes 144 1 0 0, result 0x10 1 0 0)
    ∧ answer (after .fitstatSlip (slip .fitstat [1, 5] base)) = some (0, 0, result 0x10 0 0 0)
    ∧ answer (after .fitstatSlip (slip .fitstat [1, 6] queued)) = some (0, 0, result 0x13 2 0 0)
    ∧ answer (after .fitstatSlip (slip .fitstat [9, 5] queued)) = some (0, 0, result 0x17 0 0 0) := by decide +kernel

/-- O41: changes to a CURRENT story, to one without a spec, and to a bracketed one; an opening and an ending. -/
def noticed (n : Notice) (s : State) : State := { s with notices := [n] }

def bracketed : State :=
  { queued with
    fit := { bracketed := [1] }
    dir := { queued.dir with stories := [(1, { placed with fit := { placed.fit with state := .bracketed } })] } }

theorem test_fit_changes : (after .fitWriteNotice (noticed (.fitWrite ⟨1, 0, 0, 0, 1, 1⟩) queued)).fit.queue = [1]
    ∧ (after .fitWriteNotice (noticed (.fitWrite ⟨1, 0, 0, 0, 1, 1⟩) queued)).notices = [.screenFit 1, .pageFit 1]
    ∧ (after .fitLengthNotice (noticed (.fitLength 1 1) queued)).fit.queue = [1]
    ∧ (after .fitPlacementNotice (noticed (.fitPlacement 1 1) queued)).fit.queue = [1]
    ∧ (after .fitLengthNotice (noticed (.fitLength 1 1) base)) = base
    ∧ ((after .fitWriteNotice (noticed (.fitWrite ⟨1, 0, 0, 0, 1, 1⟩) bracketed)).story 1).fit.changedBracket = true
    ∧ (after .fitWriteNotice (noticed (.fitWrite ⟨1, 0, 0, 0, 1, 1⟩) bracketed)).fit.queue = [] := by decide +kernel

theorem test_fit_brackets : ((after .fitOpeningNotice (noticed (.fitOpening 1) queued)).story 1).fit.state = .bracketed
    ∧ (after .fitOpeningNotice (noticed (.fitOpening 1) queued)).fit.bracketed = [1]
    ∧ ((after .fitEndingNotice (noticed (.fitEnding 1 .full) bracketed)).story 1).fit.state = .current
    ∧ (after .fitEndingNotice (noticed (.fitEnding 1 .full) { bracketed with dir := { bracketed.dir with
        stories := [(1, { placed with fit := { placed.fit with state := .bracketed, changedBracket := true } })] } })).fit.queue = [1] := by decide +kernel

/-- O42: R89: the start of a count, its read, its completion after 16 lines, a change during it, and an uncorrectable word. -/
def atLine (done : Nat) (f : FitRecord) : State :=
  let t := after .countStart { queued with fit := { queue := [1] } }
  { t with
    path := { t.path with port := some (.fit (16384 + done * 64)) }
    dir := { t.dir with stories := [(1, { placed with fit := f })] }
    fit := { t.fit with count := t.fit.count.map fun c => { c with done := done } } }

def counted : FitRecord := { placed.fit with state := .counting }

theorem test_count : (after .countStart { queued with fit := { queue := [1] } }).fit.request = some 16384
    ∧ ((after .countStart { queued with fit := { queue := [1] } }).story 1).fit.state = .counting
    ∧ (after .fitReadGrant (atLine 0 counted)).fit.request = some 16448
    ∧ ((after .fitReadGrant (atLine 15 counted)).story 1).fit.state = .current ∧ ((after .fitReadGrant (atLine 15 counted)).story 1).fit.lines = 0
    ∧ ((after .fitReadGrant (atLine 15 { counted with changedCount := true })).story 1).fit.state = .queued
    ∧ ((after .fitReadGrant (atLine 15 { counted with changedCount := true })).story 1).fit.lines = 3
    ∧ ((after .fitReadGrant { atLine 3 counted with flaws := [(16384 + 192, .uncorrected)] }).story 1).fit.state = .error := by decide +kernel

/-- R87, R90, R91: a count that completes with a length notice, a write notice or a placement notice of its story on its way stores nothing: the story
is QUEUED, or BRACKETED with its mark in a bracket, and the notice is taken; notices of another story do not matter, nor does a line in between. -/
theorem test_count_past_a_change :
    let run (done : Nat) (open_ : List Nat) (ns : List Notice) :=
      let s := atLine done counted
      after .fitReadGrant { s with notices := ns, fit := { s.fit with bracketed := open_ } }
    let lost (t : State) := t.fit.queue == [1] && (t.story 1).fit == { counted with state := .queued }
      && t.notices == [.screenFit 1, .pageFit 1]
    lost (run 15 [] [.fitLength 1 1]) = true ∧ lost (run 15 [] [.fitPlacement 1 2]) = true
      ∧ lost (run 15 [] [.fitWrite ⟨1, 0, 0, 0, 1, 1⟩]) = true
      ∧ ((run 15 [1] [.fitWrite ⟨1, 0, 0, 0, 1, 1⟩]).story 1).fit = { counted with state := .bracketed, changedBracket := true }
      ∧ ((run 15 [] [.fitLength 2 1, .screenLength 1 1]).story 1).fit.state = .current
      ∧ (run 14 [] [.fitLength 1 1]).notices = [.fitLength 1 1] := by decide +kernel

/-- R80, R83: at 40 units a line of two words of four 9-unit letters takes two lines; SAT stops a walk. -/
theorem test_walk :
    let w : Walk := ⟨0, 0, true, false, 0, none, [], 0, false, []⟩
    let text : List Byte := [0x41, 0x42, 0x43, 0x44, 0x20, 0x41, 0x42, 0x43, 0x44, 0x01]
    (text.foldl (Walk.byte 40 0 base.width) w).lines = 2 ∧ (text.foldl (Walk.byte 77 0 base.width) w).lines = 1
      ∧ (text.foldl (Walk.byte 40 0 base.width) { w with sat := true, lines := 4095 }) = { w with sat := true, lines := 4095 } := by decide +kernel

/-- R81: at measure 36 with indent 18, a paragraph of one character of 36 units is one line, which is closed past the measure; two of them are two
lines. -/
theorem test_split :
    let w : Walk := ⟨0, 0, true, false, 0, none, [], 0, false, [⟨1, 1, 1, none⟩]⟩
    let run (text : List Byte) := (text.foldl (Walk.byte 36 18 fun _ _ => 36) w).endText 36 18
    (run [0x41]).lines = 1 ∧ ((run [0x41]).budgets.map (·.cut)) = [none] ∧ (run [0x41, 0x42]).lines = 2
      ∧ ((run [0x41, 0x42]).budgets.map (·.cut)) = [some 1] ∧ (run [0x41, 0x01]).lines = 2 := by decide +kernel

/-! ### Screens (O43 to O45) -/

/-- O43: R97 to R99: story 2 has 32 copy lines, so its greatest top line is 10; SCROLL by −1 from the top stays. -/
theorem test_view : answer (after .viewSlip (slip .view [2, 11] base)) = some (10, 32, result 0x10 0 0 0)
    ∧ (after .viewSlip (slip .view [2, 11] base)).viewOf 1 = ⟨some 2, 10, 32⟩ ∧ (after .viewSlip (slip .view [2, 11] base)).dirtyMap 1 = 0x7FFFFF
    ∧ answer (after .viewSlip (slip .view [0, 11] base)) = some (0, 0, result 0x10 0 0 0)
    ∧ answer (after .viewSlip (slip .view [9, 0] base)) = some (0, 0, result 0x17 0 0 0)
    ∧ answer (after .viewSlip (slip .view [2048, 0] base)) = some (0, 0, result 0x17 0 0 0) := by decide +kernel

def viewing : State := { base with screen := { views := [(1, ⟨some 2, 3, 32⟩)] } }

theorem test_scroll : answer (after .scrollSlip (slip .scroll [0xFFFFFFFF] viewing)) = some (2, 32, result 0x10 0 0 0)
    ∧ answer (after .scrollSlip (slip .scroll [0xFFFFFFFC] viewing)) = some (0, 32, result 0x10 0 0 0)
    ∧ answer (after .scrollSlip (slip .scroll [0x7FFFFFFF] viewing)) = some (10, 32, result 0x10 0 0 0)
    ∧ answer (after .scrollSlip (slip .scroll [1] base)) = some (0, 0, result 0x19 0 0 0)
    ∧ (after .reshowSlip (slip .reshow [] base)).dirtyMap 1 = 0xFFFFFF := by decide +kernel

/-- O44: the rows of each notice (R97, R102 to R104). -/
theorem test_row_notices : (after .screenFitNotice (noticed (.screenFit 2) viewing)).screen.dirty = [(1, 0x400000)]
    ∧ (after .lockNotice (noticed (.lock 2) viewing)).screen.dirty = [(1, 0x400000)]
    ∧ (after .screenPlacementNotice (noticed (.screenPlacement 2 1) viewing)).screen.dirty = [(1, 0x400000)]
    ∧ (after .markNotice (noticed (.mark 2) viewing)).notices = [.dirty 0 1]
    ∧ (after .screenOpeningNotice (noticed (.screenOpening 2) viewing)).screen.bracketed = [2]
    ∧ (after .screenEndingNotice (noticed (.screenEnding 2 .full) viewing)).screen.dirty = [(1, 0x7FFFFF)]
    ∧ (after .handNotice (noticed (.hand 1) viewing)).screen.dirty = [(1, 0x800000)]
    ∧ (after .basketNotice (noticed (.basket 0) viewing)).screen.dirty = [(0, 0x800000), (1, 0x800000)]
    ∧ (after .editionNotice (noticed (.edition 1 true) viewing)).screen.dirty = [(0, 0x800000), (1, 0x800000)] := by decide +kernel

theorem test_row_writes : (after .screenWriteNotice (noticed (.screenWrite ⟨2, 0, 192, 3, 1, 1⟩) viewing)).screen.dirty = [(1, 1)]
    ∧ (after .screenWriteNotice (noticed (.screenLine 2 24) viewing)).screen.dirty = [(1, 0x200000)]
    ∧ (after .screenWriteNotice (noticed (.screenWrite ⟨2, 1, 1600, 25, 1, 1⟩) viewing)).screen.dirty = []
    ∧ (after .screenWriteNotice (noticed (.screenLine 2 2) viewing)).screen.dirty = []
    ∧ (after .screenWriteNotice (noticed (.screenLine 2 24) { viewing with screen := { viewing.screen with bracketed := [2] } })).screen.dirty
        = [(1, 0x200000)]
    ∧ (after .screenWriteNotice (noticed (.screenWrite ⟨2, 0, 192, 3, 1, 1⟩) { viewing with
        screen := { viewing.screen with bracketed := [2] } })).screen.dirty = []
    ∧ (after .screenLengthNotice (noticed (.screenLength 2 1) viewing)).viewOf 1 = ⟨some 2, 0, 16⟩
    ∧ (after .screenLengthNotice (noticed (.screenLength 2 1) viewing)).screen.dirty = [(1, 0x3FFFFF)]
    ∧ (after .screenLengthNotice (noticed (.screenLength 2 3) viewing)).viewOf 1 = ⟨some 2, 3, 48⟩
    ∧ (after .screenLengthNotice (noticed (.screenLength 2 3) viewing)).screen.dirty = [] ∧ viewing.tablesCanonical := by
  unfold State.tablesCanonical
  decide +kernel

def vote : Story :=
  { custody := .held 45, slug := ascii "COUNCIL VOTE", placements := [(1, some (0, 0)), (3, some (1, 0)), (4, some (2, 0))],
    fit := { state := .current, lines := 37, outcomes := [(3, ⟨.over, 34, 3, none⟩)] } }

/-- The example of section 6.5: position 45 views COUNCIL VOTE on desk 4. -/
def council : State :=
  { setup := { partState := .active }
    clock := { tod := 72780, clockSet := true }
    page := { editions := [(1, ⟨true, some 79200⟩), (2, ⟨true, some 81000⟩), (3, ⟨false, some 75000⟩)] }
    desk := { baskets := [(4, [20, 21, 22, 23, 24])] }
    dir := {
      stories := [(9, vote),
        (20, { custody := .basket 4, cls := .flash, entryTime := 72605 }), (21, { custody := .basket 4, entryTime := 72700 }),
        (22, { custody := .basket 4, entryTime := 72700 }), (23, { custody := .basket 4, entryTime := 72700 }),
        (24, { custody := .basket 4, entryTime := 72700 }), (30, { custody := .held 45, slug := ascii "HARBOUR FIRE" })]
      positions := [(45, ⟨true, 4, 0, 0, 0, false, [30, 9]⟩)] } }

theorem test_status_rows :
    ({ council with page := { editions := [(1, ⟨false, none⟩)] } } : State).fitRowChars 9
        = ascii "COUNCIL VOTE CURR  L  37  E3 H 34 OVER   3" ++ spaces 22
      ∧ council.basketRowChars 45 = ascii "DESK04    5 F 1 A  2 D 1:47 H2 HARBOUR FIRE" ++ spaces 21 := by decide +kernel

/-- O45: R109, R110, R117: a text row is asked of the store and sent as it was read; a row of an empty view is sent blank. -/
def awake (s : State) : State := { s with links := { table := [(0, { state := .awake, turn := 1, drops := [(1, ⟨.present, 0, 24, 80, 1, true⟩)] })] } }

theorem test_dirty_notice :
    let s := noticed (.dirty 0 1) { awake viewing with screen := { viewing.screen with dirty := [(1, 6)] } }
    (after (.dirtyNotice 0) s).screen.requests = [⟨0, 17408 + 256⟩] ∧ (after (.dirtyNotice 0) s).screen.dirty = [(1, 4)]
      ∧ ((after (.dirtyNotice 0) s).link 0).hand = some ⟨1, 1, 1, false, none⟩ ∧ ((after (.dirtyNotice 0) s).link 0).turn = 2
      ∧ ((after (.dirtyNotice 0) { s with screen := { s.screen with views := [] } }).link 0).frame = some (.blank 1 1) := by decide +kernel

def fetching (flaws : Table Ecc) : State :=
  let s := awake viewing
  { s with
    mem := (base.putBytes 17664 [0x41, 0x00, 0x10]).mem, flaws := flaws
    path := { s.path with port := some (.screen ⟨0, 17664⟩) }
    links := { table := [(0, { s.link 0 with hand := some ⟨1, 1, 1, false, none⟩ })] } }

theorem test_fetch_grant : ((after .screenFetchGrant (fetching [])).link 0).frame = some (.row 1 1 ([0x41, 0x20, 0x10] ++ List.replicate 61 0x20))
    ∧ ((after .screenFetchGrant (fetching [(17664 + 60, .uncorrected)])).link 0).frame = some (.row 1 1 (List.replicate 64 0x7F))
    ∧ (after .screenFetchGrant (fetching [(17664 + 60, .uncorrected)])).notices = [.fault ⟨.store, 5, 17664 + 60, true, true⟩]
    ∧ ((after (.rowFrameEnd 0) (after .screenFetchGrant (fetching []))).link 0).rowsSent = 1
    ∧ ((after (.rowFrameEnd 0) (after .screenFetchGrant (fetching []))).link 0).hand = none := by decide +kernel

/-! ### Screen links (O46 to O49) -/

/-- Link 2 of the worked sequence of section 7.7: drops 3 and 5 PRESENT, position 30 on drop 5 and position 33 on drop 3. -/
def linkTwo (l : Link) : State :=
  { setup := { partState := .active }
    dir := { positions := [(30, ⟨true, 0, 0, 2, 5, false, []⟩), (33, ⟨true, 0, 0, 2, 3, false, []⟩)] }
    links := { table := [(2, l)] } }

def present : Drop := ⟨.present, 4, 24, 80, 1, false⟩

def idling : Link := { state := .awake, drops := [(3, present), (5, present)], idleTime := 4999 }

/-- The tick of 5,000 ms, the SLEEP frames, a WAKE between them, and the wake after the last. -/
theorem test_link_sleeps :
    let a := after (.linkSleep 2) (after .msTick (linkTwo idling))
    let b := after (.sleepFrameEnd 2) (after (.wake 2) a)
    let c := after (.sleepFrameEnd 2) b
    (a.link 2).frame = some (.sleep 3) ∧ (a.link 2).state = .sleeping ∧ (a.link 2).sleepInProgress = true
      ∧ (b.link 2).frame = some (.sleep 5) ∧ (b.link 2).wakePending = true
      ∧ (c.link 2).state = .waking ∧ (c.link 2).wakeTry = 1 ∧ (c.link 2).frame = none
      ∧ ((c.link 2).drop 3) = { present with state := .absent } ∧ (after (.sleepFrameEnd 2) (after (.sleepFrameEnd 2) a)).link 2
          = { idling with state := .sleeping, idleTime := 5000 } := by decide +kernel

def waking (w : Option Nat) (try_ : Nat) (drops : List (Nat × Drop)) : State :=
  linkTwo { state := .waking, wakeTry := try_, window := w, drops := drops }

/-- The eight HELLO-REQ frames and the window: tries 1 and 2 lead on, try 3 to OFF with its record, a PRESENT drop to AWAKE. -/
theorem test_wake_try : ((after (.wakeDriveEnd 2) (linkTwo { state := .waking, driving := true })).link 2).frame = some (.helloReq 0)
    ∧ ((after (.helloReqEnd 2) (linkTwo { state := .waking, frame := some (.helloReq 6), control := [.helloReq 7] })).link 2).frame = some (.helloReq 7)
    ∧ ((after (.helloReqEnd 2) (linkTwo { state := .waking, frame := some (.helloReq 7) })).link 2).window = some 0
    ∧ after (.wakeWindowEnd 2) (waking (some 19) 1 []) = waking (some 19) 1 []
    ∧ ((after (.wakeWindowEnd 2) (waking (some 20) 2 [])).link 2).wakeTry = 3
    ∧ ((after (.wakeWindowEnd 2) (waking (some 20) 3 [])).link 2).state = .off
    ∧ (after (.wakeWindowEnd 2) (waking (some 20) 3 [])).notices = [.fault ⟨.screen, 1, 2, true, true⟩]
    ∧ (after (.wakeWindowEnd 2) { waking (some 20) 3 [] with dir := {} }).notices = []
    ∧ ((after (.wakeWindowEnd 2) (waking (some 20) 1 [(3, present)])).link 2).state = .awake := by decide +kernel

/-- R123: OFF with retry due, a census, and what a WAKE does not do. -/
theorem test_wake : ((after (.wake 2) (linkTwo { state := .off, retryDue := true })).link 2).state = .waking
    ∧ after (.wake 2) (linkTwo { state := .off }) = linkTwo { state := .off }
    ∧ after (.wake 2) (waking none 1 []) = waking none 1 []
    ∧ ((after (.wake 2) (linkTwo idling)).link 2).frame = some (.helloReq 0)
    ∧ ((after (.wake 2) (linkTwo idling)).link 2).control = [1, 2, 4, 6, 7].map .helloReq
    ∧ ((after (.wake 2) (linkTwo { idling with frame := some (.sleep 3) })).link 2).control = [0, 1, 2, 4, 6, 7].map .helloReq := by decide +kernel

/-- O47: the header of section 7.2, B1h 18h 40h 13h, as drop 5 sends it, and its one-bit and two-bit errors there. -/
theorem test_hello : makeHeader 0xB1 0x18 0x40 = 0x134018B1 ∧ checkHeader 0x134018B1 = .used 0x4018B1 false
    ∧ checkHeader (0x134018B1 ^^^ 0x10) = .used 0x4018B1 true ∧ checkHeader (0x134018B1 ^^^ 0x11) = .discarded
    ∧ checkHeader (0x134018B1 ^^^ 0x40000000) = .discarded
    ∧ ((after (.hello 2 0x134018B1) (waking none 1 [])).link 2).drop 5 = ⟨.present, 0, 24, 64, 0, true⟩
    ∧ ((after (.hello 2 0x134018A1) (waking none 1 [])).link 2).corrected = 1
    ∧ ((after (.hello 2 0x134018B1) (linkTwo { idling with drops := [] })).dirtyMap 30).getLsbD 1 = true
    ∧ ((after (.hello 2 (makeHeader 0xB1 0x17 0x40)) (waking none 1 [])).link 2).drop 5 = ⟨.absent, 0, 23, 64, 0, true⟩
    ∧ (after (.hello 2 (makeHeader 0xB1 0x18 0x3F)) (linkTwo idling)).notices = [.fault ⟨.screen, 3, 21, true, true⟩]
    ∧ ((after (.hello 2 0x134018B1) (linkTwo { state := .sleeping, sleepInProgress := true })).link 2).wakePending = true
    ∧ ((after (.hello 2 0x134018B1) (linkTwo { state := .sleeping })).link 2).state = .waking := by decide +kernel

theorem test_hello_last_answer :
    let all := (List.range 8).map fun d => (d, { present with state := if d = 5 then DropState.absent else .present, answered := d != 5 })
    ((after (.hello 2 0x134018B1) (waking (some 3) 1 all)).link 2).state = .awake := by decide +kernel

/-- R124: the 31st and the 32nd ROWBAD, a row out of range, and an ABSENT drop. -/
theorem test_rowbad :
    let s (n : Nat) := linkTwo { idling with drops := [(5, { present with rowbad := n })] }
    let t := after (.rowbad 2 (makeHeader 0xB2 23 0)) (s 31)
    ((after (.rowbad 2 (makeHeader 0xB2 23 0)) (s 30)).link 2).drop 5 = { present with rowbad := 31 }
      ∧ (t.link 2).drop 5 = { present with rowbad := 32, state := .faulty } ∧ t.dirtyMap 30 = 0x800000
      ∧ .fault ⟨.screen, 2, 21, true, true⟩ ∈ t.notices
      ∧ ((after (.rowbad 2 (makeHeader 0xB2 24 0)) (s 30)).link 2).ignored = 1
      ∧ ((after (.rowbad 2 (makeHeader 0x92 3 0)) (s 30)).link 2).ignored = 1
      ∧ ((after (.ignoredUpstreamFrame 2 (makeHeader 0xB0 3 0)) (s 30)).link 2).ignored = 1
      ∧ ((after (.discardedHeader 2 (0x134018B1 ^^^ 0x11)) (s 30)).link 2).discarded = 1 := by decide +kernel

/-- O48. -/
theorem test_linkstat :
    let s := { linkTwo { idling with corrected := 3, discarded := 300, rowsSent := 0x1234, ignored := 7 } with dir := base.dir }
    let t := after .linkstatSlip (chiefSlip .linkstat [packBytes 2 1 0 0] s)
    answer t = some (packHalves 3 300, packBytes 0x34 0x12 7 0, result 0x10 2 0 0x28) ∧ (t.link 2).rowsSent = 0
      ∧ answer (after .linkstatSlip (slip .linkstat [packBytes 2 0 1 5] s)) = some (packBytes 24 80 1 0, 0, result 0x10 1 4 0)
      ∧ answer (after .linkstatSlip (slip .linkstat [packBytes 2 1 1 5] s)) = some (0, 0, result 0x16 0 0 0)
      ∧ answer (after .linkstatSlip (slip .linkstat [packBytes 16 1 0 0] s)) = some (0, 0, result 0x13 1 0 0)
      ∧ answer (after .linkstatSlip (slip .linkstat [packBytes 2 0 0 8] s)) = some (0, 0, result 0x13 1 0 0) := by decide +kernel

/-- O49: a tick with everything running, and one that brings a wrap; the second tick at the end of a day; the minute tick. -/
def running (left : Nat) : State :=
  let s := linkTwo { idling with idleTime := 7 }
  { s with
    path := { s.path with pair := some ⟨0, 0, .openArea, 1⟩ }
    desk := { s.desk with brackets := [(0, ⟨true, 1, 0, 5, left⟩)] }
    intake := { s.intake with lines := [(2, { enable := true, silenceTime := 59999 })] }
    page := { s.page with lockLeft := some left }
    set := { s.set with state := .awaiting, answerTime := 19999, answerLimit := 20000, rx := [0xA5], rxTicks := 99 } }

theorem test_tick : (after .msTick (running 2)).path.pair = some ⟨0, 0, .openArea, 2⟩ ∧ ((after .msTick (running 2)).bracketAt 0).timeLeft = 1
    ∧ ((after .msTick (running 2)).link 2).idleTime = 8 ∧ (after .msTick (running 2)).page.lockLeft = some 1
    ∧ (after .msTick (running 2)).set.answerTime = 20000 ∧ (after .msTick (running 2)).set.rxTicks = 100
    ∧ ((after .msTick (running 2)).line 2).silenceDue = true ∧ (after .msTick (running 2)).clock.ms = 1
    ∧ (after .msTick { running 2 with setup := {} }).set.answerTime = 19999
    ∧ (after .msTick { running 2 with clock := { ms := 999 } }).clock = { ms := 999, secondDue := true } := by decide +kernel

theorem test_seconds :
    let s : State := { running 2 with clock := { tod := 86399, ms := 999, clockSet := true, secondDue := true } }
    (after .secondTick s).clock = ⟨0, 0, true, false, true, [(1, 0), (2, 0), (3, 0), (4, 0)]⟩
      ∧ (after .minuteTick { running 2 with clock := { minuteDue := true } }).screen.dirty = [(30, 0x800000), (33, 0x800000)]
      ∧ ((after .minuteTick { linkTwo {} with clock := { minuteDue := true } }).link 2) = { retryDue := true }
      ∧ ((after .minuteTick { linkTwo {} with clock := { minuteDue := true }, screen := { dirty := [(30, 1)] } }).link 2).state = .waking
      ∧ ({ linkTwo {} with clock := { minuteDue := true } } : State).tablesCanonical := by
  unfold State.tablesCanonical
  decide +kernel

/-! ### Wire intake (O50 to O52) -/

/-- Line 2 of section 8.7 in a part whose lowest FREE entry is 2 and whose lowest free block is 17. -/
def wire (l : Line) : State :=
  { setup := { partState := .active }
    path := { regions := ⟨16, 16, 2, 0⟩ }
    clock := { tod := 500 }
    dir := { stories := [(1, { custody := .held 0, chain := [16] })], blockMap := [(16, ⟨1, 0⟩)] }
    intake := { lines := [(2, { l with desk := 4, enable := true })] } }

def frame (bits : Byte) (parityBit stopMark : Bool) : WireFrame := ⟨bits, parityBit, stopMark, none⟩

def full512 : List Entry := List.replicate 512 (.char 0x41 false)

/-- R131: 41h has even parity; with its parity bit set it is spoiled, and a stop bit at space holds it back. -/
theorem test_character : ((after (.character 2 (frame 0xC1 false true)) (wire {})).line 2).fifo = [.char 0x41 false]
    ∧ ((after (.character 2 (frame 0x41 true true)) (wire {})).line 2).fifo = [.char 0x41 true]
    ∧ (after (.character 2 (frame 0x41 true true)) (wire {})).notices = [.fault ⟨.wire, 1, 2, true, false⟩]
    ∧ ((after (.character 2 (frame 0xC1 true true)) (wire { dataBits := 8 })).line 2).fifo = [.char 0xC1 false]
    ∧ ((after (.character 2 (frame 0x41 false false)) (wire {})).line 2).heldFrame = some 0x41
    ∧ after (.character 2 (frame 0x41 false true)) (wire { held := true }) = wire { held := true }
    ∧ ((after (.character 2 (frame 0x41 false true)) (wire { fifo := full512 })).line 2).marks = [.gap]
    ∧ (after (.character 2 (frame 0x41 false true)) (wire { fifo := full512 })).notices = [.fault ⟨.wire, 2, 2, true, true⟩]
    ∧ ((after (.character 2 (frame 0x41 false true)) (wire { fifo := full512, marks := [.gap] })).line 2).lost = 1
    ∧ (after (.character 2 (frame 0x41 false true)) (wire { fifo := full512, marks := [.gap] })).notices = [] := by decide +kernel

theorem test_receiver : ((after (.returnToMark 2) (wire { heldFrame := some 0x41 })).line 2).fifo = [.char 0x41 true]
    ∧ ((after (.returnToMark 2) (wire { breakTaken := true })).line 2).breakTaken = false
    ∧ ((after (.wireBreak 2) (wire { heldFrame := some 0, held := true })).line 2).fifo = [.mark .brk]
    ∧ ((after (.wireBreak 2) (wire { heldFrame := some 0, held := true })).line 2).breaks = 1
    ∧ ((after (.wireBreak 2) (wire { fifo := full512 })).line 2).marks = [.brk]
    ∧ after (.wireBreak 2) (wire { breakTaken := true }) = wire { breakTaken := true }
    ∧ ((after (.silence 2) (wire { silenceDue := true })).line 2).fifo = [.mark .silence]
    ∧ ((after (.silence 2) (wire { silenceDue := true, fifo := full512 })).line 2).marks = [.silence]
    ∧ after (.silence 2) (wire {}) = wire {} := by decide +kernel

theorem test_linehold :
    let s := wire { take := .body, story := 2 }
    answer (after .lineholdSlip (chiefSlip .linehold [2] s)) = some (2, 2, result 0x10 0 0 0)
      ∧ ((after .lineholdSlip (chiefSlip .linehold [2] s)).line 2).held = true
      ∧ answer (after .lineresumeSlip (chiefSlip .lineresume [2] s)) = some (0, 0, result 0x22 0 0 0)
      ∧ answer (after .lineresumeSlip (chiefSlip .lineresume [2] (wire { held := true }))) = some (0, 0, result 0x10 0 0 0)
      ∧ answer (after .lineholdSlip (chiefSlip .linehold [8] s)) = some (0, 0, result 0x13 1 0 0) := by decide +kernel

/-- O51: 02h opens story 2 on block 17; with no block, or as a spoiled character, it does not. -/
theorem test_take_start :
    let t := after (.assemblerCharacter 2) (wire { fifo := [.char 0x02 false] })
    let u := after (.assemblerCharacter 2) { wire { fifo := [.char 0x02 false] } with path := { regions := ⟨16, 16, 1, 0⟩ } }
    (t.story 2).custody = .intake 2 ∧ (t.story 2).slug = ascii "WIRE2" ++ spaces 7 ∧ (t.story 2).chain = [17] ∧ (t.story 2).filling = some 0
      ∧ (t.line 2).take = .header ∧ t.intake.requests = [⟨2, 2, 0, 17408, true, List.replicate 64 0⟩]
      ∧ (u.line 2).take = .discarding ∧ (u.line 2).takesLost = 1 ∧ u.notices = [.fault ⟨.wire, 3, 2, true, true⟩]
      ∧ ((after (.assemblerCharacter 2) (wire { fifo := [.char 0x02 true] })).line 2).discarded = 1 := by decide +kernel

def heading (l : Line) : State := { wire { l with story := 2 } with dir := { stories := [(2, { custody := .intake 2, chain := [17] })] } }

def chars (t : String) : List (Byte × Bool) := (ascii t).map (·, false)

/-- R135: the header of section 8.7, one of a class letter alone, and the 200th character. -/
theorem test_header :
    let t := after (.assemblerCharacter 2) (heading { fifo := [.char 0x0D false], take := .header, header := chars "UHARBOUR FIRE" })
    (t.story 2).cls = .urgent ∧ (t.story 2).slug = ascii "HARBOUR FIRE" ∧ (t.line 2).take = .body
      ∧ ((after (.assemblerCharacter 2) (heading { fifo := [.char 0x0D false], take := .header, header := chars "B" })).story 2).cls = .flash
      ∧ ((after (.assemblerCharacter 2) (heading { fifo := [.char 0x0D false], take := .header, header := chars "B" })).story 2).slug
          = ascii "WIRE2" ++ spaces 7
      ∧ ((after (.assemblerCharacter 2) (heading { fifo := [.char 0x0D true], take := .header })).line 2).header = [(0x0D, true)]
      ∧ ((after (.assemblerCharacter 2) (heading
          { fifo := [.char 0x41 false], take := .header, header := List.replicate 199 (0x41, false) })).line 2).take = .body
      ∧ ((after (.assemblerCharacter 2) (heading
          { fifo := [.char 0x41 false], take := .header, header := List.replicate 199 (0x41, false) })).story 2).slug
          = ascii "NOSLUG" ++ spaces 6 := by decide +kernel

/-- R136 to R139: a body character, a spoiled one, a paragraph end handed to the store, and the wrap of section 8.4. -/
theorem test_body :
    let s (e : Entry) (buf : List Byte) := heading { fifo := [e], take := .body, buf := buf }
    let line0 := List.replicate 57 0x41 ++ [0x20] ++ ascii "HARBO"
    ((after (.assemblerCharacter 2) (s (.char 0x41 true) [])).line 2).buf = [0x7F]
      ∧ ((after (.assemblerCharacter 2) (s (.char 0x09 false) [])).line 2).buf = [0x20]
      ∧ ((after (.assemblerCharacter 2) (s (.char 0x0A false) [])).line 2).buf = []
      ∧ (after (.assemblerCharacter 2) (s (.char 0x0D false) [0x41])).intake.requests
          = [⟨2, 2, 0, 17408, false, [0x41, 0x01] ++ List.replicate 62 0⟩]
      ∧ (after (.assemblerCharacter 2) (s (.char 0x55 false) line0)).intake.requests
          = [⟨2, 2, 0, 17408, false, List.replicate 57 0x41 ++ [0x20] ++ List.replicate 6 0⟩]
      ∧ ((after (.assemblerCharacter 2) (s (.char 0x55 false) line0)).line 2).buf = ascii "HARBOU"
      ∧ ((after (.assemblerCharacter 2) (s (.char 0x41 false) (List.replicate 63 0x41))).line 2).buf = [] := by decide +kernel

/-- R141: a BREAK truncates a take in BODY, a GAP marks its story, and a BREAK in DISCARDING ends it. -/
theorem test_marker :
    let s (m : Marker) := heading { fifo := [.mark m], take := .body }
    ((after (.assemblerMarker 2) (s .brk)).line 2).take = .ending ∧ ((after (.assemblerMarker 2) (s .brk)).story 2).truncated = true
      ∧ (after (.assemblerMarker 2) (s .brk)).notices = [.mark 2]
      ∧ ((after (.assemblerMarker 2) (s .gap)).story 2).gapped = true ∧ ((after (.assemblerMarker 2) (s .gap)).line 2).take = .body
      ∧ ((after (.assemblerMarker 2) (wire { fifo := [.mark .brk], take := .discarding })).line 2).take = .idle := by decide +kernel

def granted (q : IntakeReq) (l : Line) : State :=
  let s := heading { l with outstanding := true }
  { s with path := { s.path with port := some (.intake q) }, flaws := [(17408, .uncorrected)] }

theorem test_intake_grants :
    let text := granted ⟨2, 2, 0, 17408, false, List.replicate 64 0x41⟩ { take := .body }
    let fill (i : Nat) := granted ⟨2, 2, i, 17408 + i * 64, true, List.replicate 64 0⟩ { take := .body, fill := some (17, i) }
    (after .intakeWriteGrant text).byte 17471 = 0x41 ∧ (after .intakeWriteGrant text).byte 17472 = 0
      ∧ (after .intakeWriteGrant text).flaws = [] ∧ (after .intakeWriteGrant text).notices = [.screenLine 2 0]
      ∧ ((after .intakeWriteGrant text).line 2).outstanding = false
      ∧ (after .intakeFillGrant (fill 14)).intake.requests = [⟨2, 2, 15, 18368, true, List.replicate 64 0⟩]
      ∧ (after .intakeFillGrant (fill 15)).notices = [.screenLength 2 1] ∧ ((after .intakeFillGrant (fill 15)).line 2).fill = none := by
  decide +kernel

/-- R142, R52: the story joins the basket of desk 4 after the last URGENT story. -/
theorem test_delivery :
    let s := heading { take := .ending, cls := .urgent }
    let s : State := { s with
      dir := { s.dir with stories := s.dir.stories ++ [(5, { custody := .basket 4, cls := .urgent }), (6, { custody := .basket 4 })] }
      desk := { baskets := [(4, [5, 6])] } }
    let t := after (.delivery 2) s
    t.basketOf 4 = [5, 2, 6] ∧ (t.story 2).custody = .basket 4 ∧ (t.story 2).entryTime = 500 ∧ (t.story 2).cls = .urgent
      ∧ t.notices = [.basket 4] ∧ (t.line 2).delivered = 1 ∧ (t.line 2).takesTruncated = 0 ∧ (t.line 2).take = .idle
      ∧ after (.delivery 2) (heading { take := .body }) = heading { take := .body } := by decide +kernel

/-- O52. -/
theorem test_linestat :
    let s := heading
      { take := .body, copyLine := 1000, buf := [1, 2, 3], fifo := full512, received := 65535, spoiled := 2, lost := 3, discarded := 4
        delivered := 5, takesLost := 6, takesTruncated := 7, breaks := 8 }
    answer (after .linestatSlip (slip .linestat [packBytes 2 0 0 0] s)) = some (packHalves 2 512, packBytes 0xE8 0x03 3 0, result 0x10 2 1 0)
      ∧ answer (after .linestatSlip (slip .linestat [packBytes 2 0 1 0] s)) = some (packHalves 65535 2, packHalves 3 4, result 0x10 0 0 0)
      ∧ answer (after .linestatSlip (chiefSlip .linestat [packBytes 2 1 2 0] s)) = some (packHalves 5 6, packHalves 7 8, result 0x10 0 0 0)
      ∧ ((after .linestatSlip (chiefSlip .linestat [packBytes 2 1 2 0] s)).line 2).received = 0
      ∧ answer (after .linestatSlip (slip .linestat [packBytes 2 1 1 0] s)) = some (0, 0, result 0x16 0 0 0)
      ∧ answer (after .linestatSlip (slip .linestat [packBytes 2 0 3 0] s)) = some (0, 0, result 0x13 1 0 0) := by decide +kernel

/-! ### Pages (O53 to O56) -/

def placing (words : List Word) (s : State) : State := after .placeSlip (slip .place words s)

/-- The operands of PLACE: edition, page, mode, story, column, span and hole. -/
def placeWords (e p mode n column span hole : Nat) : List Word := [packBytes e p mode 0, packBytes (n % 256) (n / 256) column span, packHalves hole 0]

/-- R153: a new page, a second story on it, the same story again, and its span of 8 clamped to the page at column 7. -/
theorem test_place :
    let a := placing (placeWords 1 7 0 1 7 8 100) base
    let a' := { a with slip := base.slip, notices := [] }
    let b := placing (placeWords 1 7 1 3 8 0 9000) a'
    let c := placing (placeWords 1 7 1 1 2 3 100) a'
    answer a = some (0, 1, result 0x10 0 0 0)
      ∧ a.pageAt 0 = { inUse := true, edition := 1, number := 7, placements := [(0, ⟨1, 7, 2, 100, .refuse, none⟩)] }
      ∧ (a.story 1).placements = [(1, some (0, 0))] ∧ a.notices = [.fitPlacement 1 1, .screenPlacement 1 1]
      ∧ answer b = some (1, 2, result 0x10 0 0 0) ∧ (b.pageAt 0).placement 1 = ⟨3, 8, 1, 8000, .cut, none⟩
      ∧ answer c = some (0, 1, result 0x10 0 0 0) ∧ (c.pageAt 0).placement 0 = ⟨1, 2, 3, 100, .cut, none⟩ ∧ c.notices = []
      ∧ (placing (placeWords 1 7 1 1 2 3 101) a').notices = [.fitPlacement 1 1, .screenPlacement 1 1] := by decide +kernel

def twelve : Page :=
  { inUse := true, edition := 1, number := 7, placements := (List.range 12).map fun i => (i, ⟨100 + i, 1, 1, 1, .refuse, none⟩) }

def allPages : State := { base with page := { pages := (List.range 128).map fun k => (k, { twelve with number := k + 1 }) } }

theorem test_place_fails :
    let code (words : List Word) (s : State) := (answer (placing words s)).map fun r => (byteAt r.2.2 0, byteAt r.2.2 1)
    code (placeWords 1 7 0 1 1 1 1) { base with dir := { base.dir with desks := [] } } = some (0x16, 0)
      ∧ code (placeWords 0 7 0 1 1 1 1) base = some (0x13, 1) ∧ code (placeWords 4 97 0 1 1 1 1) base = some (0x13, 1)
      ∧ code (placeWords 4 96 2 1 1 1 1) base = some (0x13, 1) ∧ code (placeWords 4 96 0 1 0 1 1) base = some (0x13, 2)
      ∧ code (placeWords 4 96 0 1 9 1 1) base = some (0x13, 2) ∧ code (placeWords 4 96 0 9 1 1 1) base = some (0x17, 0)
      ∧ code (placeWords 4 96 0 2048 1 1 1) base = some (0x17, 0) ∧ code (placeWords 4 96 0 4 1 1 1) base = some (0x19, 0)
      ∧ code (placeWords 1 7 0 1 1 1 1) queued = some (0x19, 0) ∧ code (placeWords 1 8 0 1 1 1 1) queued = some (0x1E, 0)
      ∧ code (placeWords 1 7 0 1 1 1 1) { base with page := { pages := [(3, twelve)] } } = some (0x1A, 0)
      ∧ code (placeWords 4 96 0 1 1 1 1) allPages = some (0x1A, 0) := by decide +kernel

/-- Two stories on a page that was SET. -/
def laid : State :=
  { queued with
    dir := { queued.dir with stories := [(1, placed), (3, { custody := .basket 0, placements := [(1, some (0, 4))] })] }
    page := { pages := [(0, { page7 with state := .set, placements := [(0, ⟨1, 1, 2, 100, .refuse, none⟩), (4, ⟨3, 3, 1, 50, .cut, none⟩)] })] } }

/-- R154: a placement of two, and the last. -/
theorem test_unplace :
    let code (words : List Word) (s : State) := (answer (after .unplaceSlip (slip .unplace words s))).map fun r => (byteAt r.2.2 0, byteAt r.2.2 1)
    let a := after .unplaceSlip (slip .unplace [packBytes 1 7 0 0, 1] laid)
    let b := after .unplaceSlip (slip .unplace [packBytes 1 7 0 0, 3] { a with slip := base.slip, notices := [] })
    answer a = some (1, 0, result 0x10 0 0 0) ∧ (a.story 1).placements = [] ∧ a.notices = [.fitPlacement 1 1, .screenPlacement 1 1]
      ∧ a.pageAt 0 = { page7 with state := .making, placements := [(4, ⟨3, 3, 1, 50, .cut, none⟩)] }
      ∧ answer b = some (0, 0, result 0x10 0 0 0) ∧ b.page.pages = []
      ∧ code [packBytes 1 7 0 0, 1] queued = some (0x19, 0) ∧ code [packBytes 1 8 0 0, 1] laid = some (0x17, 0)
      ∧ code [packBytes 1 7 0 0, 2] base = some (0x17, 0) ∧ code [packBytes 1 7 0 0, 9] laid = some (0x17, 0)
      ∧ code [packBytes 5 7 0 0, 1] laid = some (0x13, 1) := by decide +kernel

/-- R155. -/
theorem test_copypage :
    let code (words : List Word) (s : State) := (answer (after .copypageSlip (slip .copypage words s))).map fun r => (byteAt r.2.2 0, byteAt r.2.2 1)
    let a := after .copypageSlip (slip .copypage [packBytes 1 7 2 9] laid)
    answer a = some (2, 0, result 0x10 0 0 0) ∧ (a.pageAt 1).number = 9 ∧ (a.pageAt 1).state = .making
      ∧ (a.pageAt 1).placements = (laid.pageAt 0).placements ∧ (a.story 3).placements = [(1, some (0, 4)), (2, some (1, 4))]
      ∧ a.notices = [.fitPlacement 1 2, .screenPlacement 1 2, .fitPlacement 3 2, .screenPlacement 3 2]
      ∧ code [packBytes 1 7 1 9] laid = some (0x1E, 0) ∧ code [packBytes 1 7 1 7] laid = some (0x19, 0)
      ∧ code [packBytes 1 8 2 9] laid = some (0x19, 0) ∧ code [packBytes 1 7 2 0] laid = some (0x13, 1)
      ∧ code [packBytes 1 1 2 9] { allPages with page := { pages := allPages.page.pages.map fun e => (e.1, { e.2 with placements := [] }) } }
          = some (0x1A, 0) := by decide +kernel

def releasing (p : Page) (st : Story) : State :=
  { base with dir := { base.dir with stories := [(1, st)] }, page := { pages := [(0, { p with state := .making })] } }

def oversetStory : Story := { placed with fit := { placed.fit with outcomes := [(1, ⟨.over, 4, 300, some 17⟩)] } }

/-- R156: each test in its order, the chief's right, and the tail of the queue. -/
theorem test_release :
    let run (s : State) (late : Nat) (chief : Bool) : State :=
      let a := if chief then 0 else 1
      after .releaseSlip { s with slip := { s.slip with service := some ⟨a, 0, [packBytes 0 0 a late, packBytes 1 7 0 0], false, .dispatched .release, .nothing⟩ } }
    let closed : State := { releasing page7 placed with page := { (releasing page7 placed).page with editions := [(1, ⟨false, none⟩)] } }
    let long : State := { releasing page7 placed with page := { (releasing page7 placed).page with queue := List.range' 1 32 } }
    let a := run (releasing page7 placed) 0 false
    answer a = some (1, 1, result 0x10 0 0 0) ∧ (a.pageAt 0).state = .queued ∧ a.page.queue = [0]
      ∧ answer (run (releasing page7 { placed with fit := {} }) 0 false) = some (1, 0, result 0x24 0 0 0)
      ∧ answer (run (releasing page7 oversetStory) 0 false) = some (1, 300, result 0x25 0 0 0)
      ∧ answer (run closed 0 true) = some (0, 0, result 0x26 0 0 0) ∧ answer (run closed 1 false) = some (0, 0, result 0x16 0 0 0)
      ∧ answer (run closed 1 true) = some (1, 1, result 0x10 0 0 0) ∧ answer (run long 0 false) = some (0, 0, result 0x27 0 0 0)
      ∧ answer (run queued 0 false) = some (0, 0, result 0x19 0 0 0) ∧ answer (run base 0 false) = some (0, 0, result 0x19 0 0 0) := by
  decide +kernel

/-- The page in its setting attempt, its story locked. -/
def attempt1 : AttemptRec := ⟨20, 24, 400, 0, 3, 4, false, 0, 3, [16], 1024, true, false, false⟩

def setting (a : AttemptRec) : State :=
  { queued with
    page := { queued.page with pages := [(0, { page7 with state := .sending, placements := [(0, ⟨1, 1, 2, 100, .refuse, some a⟩)] })], lockLeft := some 1 }
    set := { state := .sending } }

/-- R157. -/
theorem test_withdraw :
    let run (s : State) := after .withdrawSlip (slip .withdraw [packBytes 1 7 0 0] s)
    answer (run queued) = some (2, 0, result 0x10 0 0 0) ∧ (run queued).page.queue = [] ∧ ((run queued).pageAt 0).state = .making
      ∧ answer (run (setting attempt1)) = some (3, 0, result 0x10 0 0 0) ∧ (run (setting attempt1)).notices = [.lock 1, .cancel .withdrawn]
      ∧ ((run (setting attempt1)).pageAt 0).lastOutcome = .withdrawn ∧ answer (run laid) = some (0, 0, result 0x19 0 0 0)
      ∧ answer (run base) = some (0, 0, result 0x19 0 0 0)
      ∧ answer (run { queued with dir := { queued.dir with desks := [] } }) = some (0, 0, result 0x16 0 0 0) := by decide +kernel

/-- R159, R160: a READY picks the page; an OVER story under REFUSE returns it, and one under CUT is sent cut. -/
theorem test_pick :
    let s (n : Notice) (st : Story) (mode : PlaceMode) : State := { queued with
      notices := [n], set := { state := .ready }, dir := { queued.dir with stories := [(1, st)] }
      page := { queued.page with pages := [(0, { page7 with placements := [(0, ⟨1, 1, 2, 100, mode, none⟩)] })] } }
    let a := after .ready (s .ready placed .refuse)
    a.locked 1 = true ∧ a.notices = [.lock 1] ∧ (a.pageAt 0).state = .sending ∧ a.set.tx = some (.pageOpen 1 7 1 1000)
      ∧ (a.pageAt 0).placement 0 = ⟨1, 1, 2, 100, .refuse, some attempt1⟩
      ∧ ((after .pageFitNotice (s (.pageFit 5) placed .refuse)).pageAt 0).state = .sending
      ∧ ((after .ready (s .ready oversetStory .refuse)).pageAt 0).state = .returned ∧ (after .ready (s .ready oversetStory .refuse)).page.queue = []
      ∧ (((after .ready (s .ready oversetStory .cut)).pageAt 0).placement 0).attempt
          = some ⟨20, 24, 400, 0, 3, 4, true, 17, 4, [16], 1024, true, false, false⟩ := by decide +kernel

/-- R161 to R163. -/
theorem test_attempt_ends :
    let s (n : Notice) (a : AttemptRec) := noticed n (setting a)
    let e := after .placeEndReport (s (.placeEnd 0) attempt1)
    let o (x : LinkOutcome) := after .attemptOutcome (s (.outcome x) attempt1)
    e.notices = [.lock 1] ∧ e.page.lockLeft = none ∧ e.locked 1 = false
      ∧ ((o .set).pageAt 0).state = .set ∧ ((o .set).pageAt 0).setTime = 1000 ∧ (o .set).page.queue = []
      ∧ ((after .attemptOutcome (s (.outcome .set) { attempt1 with written := true })).pageAt 0).state = .stale
      ∧ ((o .timeout).pageAt 0).state = .queued ∧ ((o .timeout).pageAt 0).attempts = 1 ∧ (o .timeout).page.queue = [0]
      ∧ ((o .readFail).pageAt 0).state = .failed ∧ ((o .restart).pageAt 0).attempts = 0
      ∧ ((after .attemptOutcome { noticed (.outcome .underflow) (setting attempt1) with page := { (setting attempt1).page with attemptLimit := 1 } }).pageAt
          0).state = .failed := by decide +kernel

theorem test_lock_limit :
    let l := after .lockLimitExpiry (setting attempt1)
    (l.pageAt 0).state = .queued ∧ l.notices = [.lock 1, .cancel .lockLimit] ∧ l.page.queue = [0] ∧ after .lockLimitExpiry queued = queued
      ∧ (after .retryReport (noticed (.retryReport 1) (setting attempt1))).page.lockLeft = some 5000
      ∧ (after .retryReport (noticed (.retryReport 2) (setting attempt1))).page.lockLeft = some 1 := by decide +kernel

/-- R164, R67, R70. -/
theorem test_page_notices :
    let sent := { attempt1 with locked := false, placeEndSent := true }
    let w (s : State) := after .pageWriteNotice (noticed (.pageWrite ⟨1, 0, 0, 0, 1, 1⟩) s)
    ((w laid).pageAt 0).state = .stale ∧ ((w (setting sent)).pageAt 0).placement 0 = ⟨1, 1, 2, 100, .refuse, some { sent with written := true }⟩
      ∧ ((w (setting attempt1)).pageAt 0).placement 0 = ⟨1, 1, 2, 100, .refuse, some attempt1⟩ ∧ (w queued).pageAt 0 = page7
      ∧ (after .pageOpeningNotice (noticed (.pageOpening 1) queued)).page.bracketed = [1]
      ∧ (after .pageEndingNotice (noticed (.pageEnding 1 .full) { queued with page := { queued.page with bracketed := [1] } })).page.bracketed = [] := by
  decide +kernel

/-- O56: the page, a placement of it, an empty slot, a page that is not there, and a part out of range. -/
theorem test_pagestat :
    let run (w : Word) := answer (after .pagestatSlip (slip .pagestat [w] (setting { attempt1 with cut := true, cutOffset := 0x1234 })))
    run (packBytes 1 7 0 0) = some (0, packBytes 1 0 1 0, result 0x10 3 1 0)
      ∧ run (packBytes 1 7 1 0) = some (packBytes 1 0 1 2, packHalves 100 0x1234, result 0x10 1 0 9)
      ∧ run (packBytes 1 7 12 0) = some (0, 0, result 0x10 0 0 0) ∧ run (packBytes 1 8 1 0) = some (0, 0, result 0x10 0 0 0)
      ∧ run (packBytes 1 7 13 0) = some (0, 0, result 0x13 1 0 0) := by decide +kernel

/-! ### The set link (O57 to O60) -/

def setLink (l : SetLink) : State := { base with set := l }

/-- R166: the register of the rule over the nine characters 1 to 9 is the published check 29B1h of this polynomial and start value; a spoiled
frame inverts it. -/
theorem test_set_check : setCheck (ascii "123456789") = 0x29B1 ∧ sentCheck true (ascii "123456789") = 0xD64E
    ∧ (setFrameBytes 0x81 [4] false).take 5 = [0xA5, 0x81, 0x01, 0x00, 0x04] ∧ (setFrameBytes 0x81 [4] false).length = 7 := by decide +kernel

/-- O57: the example of section 10.6: OFFER 5, a second OFFER, ACCEPT 4; an ACCEPT of 0 and of more than was offered; the fifth OFFER. -/
theorem test_link_start :
    let s (n w : Nat) := setLink { state := .starting, offerCount := n, offered := 5, offerWait := some w }
    let acc (c : Byte) := after (.accept (setFrameBytes 0x81 [c] false)) (s 2 10)
    after .offerTimeout (s 1 999) = s 1 999 ∧ (after .offerTimeout (s 1 1000)).set.tx = some (.offer 5)
      ∧ (after .offerTimeout (s 1 1000)).set.offerCount = 2
      ∧ (after .offerTimeout (s 5 1000)).set.state = .down ∧ (after .offerTimeout (s 5 1000)).notices = [.fault ⟨.set, 1, 5, true, true⟩]
      ∧ (acc 4).set.state = .ready ∧ (acc 4).set.rate = 4 ∧ (acc 4).notices = [.ready] ∧ (acc 0).set.rate = 1 ∧ (acc 9).set.rate = 5
      ∧ (after (.accept (setFrameBytes 0x81 [4] false)) (setLink { state := .ready })).set.outOfTurn = 1 := by decide +kernel

/-- R167, R173. -/
theorem test_received :
    let closing := setLink { state := .sending, held := true, attempt := some ⟨2, 5, 1, 0, []⟩, stage := .closing }
    (after (.badFrame (setFrameBytes 0x81 [4] true)) base).set.badFrames = 1 ∧ (after (.badFrame [0x00]) base).set.badFrames = 1
      ∧ (after (.badFrame [0xA5, 0x81, 0x01, 0x01]) base).set.badFrames = 1
      ∧ (after (.frameTimeout) (setLink { rx := [0xA5], rxTicks := 100 })).set = { badFrames := 1 }
      ∧ after (.frameTimeout) (setLink { rx := [0xA5], rxTicks := 99 }) = setLink { rx := [0xA5], rxTicks := 99 }
      ∧ (after .hold (setLink { state := .awaiting })).set.held = true ∧ (after .hold (setLink { state := .down })).set.held = false
      ∧ (after .go closing).set.held = false ∧ (after .go closing).set.tx = some (.pageClose 2 5)
      ∧ (after .go (setLink { state := .ready, held := true })).set.held = false := by decide +kernel

/-- O58: a page awaited at rate 4. -/
def awaiting (checks : Nat) : State :=
  setLink { state := .awaiting, rate := 4, checkCount := checks, answerLimit := 20000, answerTime := 19999, attempt := some ⟨3, 1, 1, 0, []⟩ }

/-- R168, R176: an attempt ended RESTART sets the CHECK count to 0 though its start waits for the frame in progress; with no attempt it waits too. -/
theorem test_restart_clears_checks :
    let run (a : Option Attempt) := (after (.maximumRateWrite [2]) (setLink { (awaiting 1).set with
      state := .sending, tx := some (.placeEnd 0), attempt := a })).set
    (run (some ⟨3, 1, 1, 0, []⟩)).startDue = true ∧ (run (some ⟨3, 1, 1, 0, []⟩)).checkCount = 0 ∧ (run none).checkCount = 1 := by decide +kernel

/-- R174, R176: SET, REFUSE, and the fall-back to rate 3 of the example of section 10.6. -/
theorem test_answers :
    let refuse (r : Byte) := after (.refuseAnswer (setFrameBytes 0x83 [3, 1, r] false))
    let set_ := after (.setAnswer (setFrameBytes 0x82 [3, 1] false)) (awaiting 1)
    set_.notices = [.outcome .set, .ready] ∧ set_.set.state = .ready ∧ set_.set.checkCount = 0
      ∧ (after (.setAnswer (setFrameBytes 0x82 [3, 2] false)) (awaiting 0)).set.outOfTurn = 1
      ∧ (refuse 1 (awaiting 0)).set.checkCount = 1 ∧ (refuse 1 (awaiting 0)).notices = [.outcome (.refuse 1), .ready]
      ∧ (refuse 1 (awaiting 1)).set.workingMax = 3 ∧ (refuse 1 (awaiting 1)).set.tx = some (.offer 3)
      ∧ (refuse 1 (awaiting 1)).notices = [.outcome (.refuse 1), .fault ⟨.set, 2, 3, true, false⟩]
      ∧ (refuse 3 (awaiting 1)).set.checkCount = 0 ∧ (refuse 2 (setLink {})).set.outOfTurn = 1
      ∧ (refuse 1 { awaiting 1 with set := { (awaiting 1).set with rate := 1 } }).set.workingMax = 1 := by decide +kernel

theorem test_answer_timeout : after .answerTimeout (awaiting 1) = awaiting 1
    ∧ (after .answerTimeout { awaiting 1 with set := { (awaiting 1).set with answerTime := 20000 } }).notices = [.outcome .timeout, .ready]
    ∧ (after .answerTimeout { awaiting 1 with set := { (awaiting 1).set with answerTime := 20000 } }).set.checkCount = 0 := by decide +kernel

def story9 (textEnd : Nat) : SetRecord := ⟨0, 9, 1, 1, 20, 24, 0, 400, 100, 3, true, textEnd, [16, 17]⟩

/-- An attempt on page (2,5) with one placement. -/
def sendingPage (tx : Option SetFrame) (stage : Stage) (textEnd : Nat) : State :=
  setLink { state := .sending, rate := 4, attempt := some ⟨2, 5, 1, 77, [story9 textEnd]⟩, stage := stage, tx := tx }

/-- R175. -/
theorem test_cancel :
    let run (tx : Option SetFrame) := after .cancel (noticed (.cancel .withdrawn) (sendingPage tx .opening 64))
    (run none).set.tx = some (.pageCancel 2 5 .withdrawn) ∧ (run none).set.cancel = some .withdrawn
      ∧ (run (some (.text 3 [(0, 0x41)] false))).set.tx = some (.text 3 [(0, 0x41)] true)
      ∧ (run (some (.text 1 [(0, 0x41)] false))).set.tx = some (.text 1 [(0, 0x41)] false)
      ∧ (after .cancel (noticed (.cancel .withdrawn) base)).set = base.set
      ∧ (after .pageCancelSent (sendingPage (some (.pageCancel 2 5 .withdrawn)) .opening 64)).notices = [.ready]
      ∧ (after .pageCancelSent (sendingPage (some (.pageCancel 2 5 .withdrawn)) .opening 64)).set.attempt = none := by decide +kernel

/-- O59: what follows each frame. -/
theorem test_frames_sent :
    let gone (f : SetFrame) (g : Stage) := (after .setFrameSent (sendingPage (some f) g 100)).set
    let pass : SendPass := ⟨2, true, 0, 0, 2, []⟩
    (after .setFrameSent (setLink { state := .starting, tx := some (.offer 5) })).set.offerWait = some 0
      ∧ (gone (.pageOpen 2 5 1 77) .opening).stage = .sizing 0 0 ∧ (gone (.pageOpen 2 5 1 77) .opening).request = some 16384
      ∧ (after .setFrameSent { sendingPage (some (.place (story9 100) 300)) (.sending ⟨300, true, 0, 0, 0, []⟩) 100 with
          set := { (sendingPage (some (.place (story9 100) 300)) (.sending ⟨300, true, 0, 0, 0, []⟩) 100).set with request := some 16384 } }).set.tx
          = some (.text 256 [] false)
      ∧ (gone (.text 2 [(0, 0x41), (70, 0x42)] false) (.sending pass)).tx = some (.placeEnd 0)
      ∧ (after .setFrameSent (sendingPage (some (.placeEnd 0)) (.sending pass) 100)).notices = [.placeEnd 0]
      ∧ (gone (.placeEnd 0) (.sending pass)).tx = some (.pageClose 2 5)
      ∧ (gone (.pageClose 2 5) .closing).state = .awaiting ∧ (gone (.pageClose 2 5) .closing).answerLimit = 20000 := by decide +kernel

def reading (line : Nat) (textEnd : Nat) (flaws : Table Ecc) : State :=
  let s := sendingPage none (.sizing line 0) textEnd
  { s with path := { s.path with port := some (.set (16384 + line * 64)) }, flaws := flaws
           mem := (base.putBytes 16384 (List.replicate 66 0x41 ++ [0x00, 0x42, 0x43])).mem }

/-- R171: bytes up to the cut offset that are not fill: 64 in the first copy line, and of 41h 41h 00h 42h 43h the three below offset 68. -/
theorem test_sizing : (after .setReadGrant (reading 0 68 [])).set.stage = .sizing 1 64
    ∧ (after .setReadGrant (reading 0 68 [])).set.request = some 16448
    ∧ (after .setReadGrant (reading 1 68 [])).set.tx = some (.place (story9 68) 3)
    ∧ (after .setReadGrant (reading 1 68 [])).set.request = some 16384
    ∧ (after .setReadGrant (reading 0 68 [(16444, .uncorrected)])).set.tx = some (.pageCancel 2 5 .readFail)
    ∧ (after .setReadGrant (reading 0 68 [(16444, .uncorrected)])).notices
        = [.fault ⟨.store, 7, 16444, true, true⟩, .outcome .readFail] := by decide +kernel

/-- R172: a TEXT frame that spoils is read again from its first byte's copy line. -/
theorem test_spoiled :
    let s := sendingPage (some (.text 70 [(64, 0x41)] false)) (.sending ⟨70, true, 0, 64, 2, []⟩) 200
    (after .textFrameSpoiled s).set.tx = some (.text 70 [(64, 0x41)] true) ∧ (after .textFrameSpoiled s).set.spoiled = 1
      ∧ (after .textFrameSpoiled s).set.request = some 16448
      ∧ (after .textFrameSpoiled { s with set := { s.set with spoiled := 7, spoiledTotal := 65535 } }).set.request = none
      ∧ (after .textFrameSpoiled { s with set := { s.set with spoiled := 7, spoiledTotal := 65535 } }).set.spoiledTotal = 65535
      ∧ (after .setFrameSent { after .textFrameSpoiled s with set := { (after .textFrameSpoiled s).set with spoiled := 8 } }).notices
          = [.outcome .underflow] := by decide +kernel

/-- O60. -/
theorem test_setstat :
    let s := setLink { state := .awaiting, rate := 4, workingMax := 5, offerCount := 2, held := true, checkCount := 1, badFrames := 1, outOfTurn := 2,
                       spoiledTotal := 0x304, spoiled := 5 }
    answer (after .setstatSlip (slip .setstat [0] s)) = some (packHalves 1 2, packBytes 4 3 5 0x23, result 0x10 4 4 5)
      ∧ (after .setstatSlip (chiefSlip .setstat [1] s)).set = { s.set with badFrames := 0, outOfTurn := 0, spoiledTotal := 0 }
      ∧ answer (after .setstatSlip (slip .setstat [1] s)) = some (0, 0, result 0x16 0 0 0)
      ∧ answer (after .setstatSlip (slip .setstat [2] s)) = some (0, 0, result 0x13 1 0 0) := by decide +kernel

/-! ### Transfers, restarts, deferred work, and what waits for what -/

/-- R181: whole transfers: an item with a row of its own, the commands of item 30h, and the bytes a read drives. -/
theorem test_transfers :
    let read (first index : Byte) := (after (.settingWrite first index []) base).setup.dataOut
    ((after (.settingWrite 0x0C 9 [7, 6, 3, 0, 16, 1]) base).line 7).rate = 6 ∧ (after (.settingWrite 0x0E 0 [0x41, 40]) base).width 0 0x41 = 36
      ∧ (after (.settingWrite 0x30 0 [1]) base).dir = {} ∧ (after (.settingWrite 0x30 0 [2]) base).setup.lastCommand = 2
      ∧ (after (.settingWrite 0x30 0 [3]) base).active = false ∧ after (.settingWrite 0x30 0 [0]) base = base
      ∧ after (.settingWrite 0x30 0 [4]) base = base ∧ after (.settingWrite 0x0C 0 [1]) base = base
      ∧ read 0x81 0 = [16] ∧ read 0x85 0 = [16, 16, 0, 64, 0, 0, 0] ∧ read 0x8B 0 = [0x88, 0x13] ∧ read 0x8E 9 = [0x20, 5]
      ∧ read 0xB1 0 = [1, 0, 0] ∧ read 0x80 0 = [0] ∧ read 0xFF 0 = [0]
      ∧ (after (.settingWrite 0xA0 2 []) (after .faultRecord faulty)).setup.dataOut = [0x0D, 2, 5, 0, 0, 0, 1, 0]
      ∧ (after (.settingWrite 0xA2 0 []) (after .faultRecord faulty)).fault.latch = false := by decide +kernel

/-- O17: an OPEN and an EXTEND undone, a result in progress that is not, and a composed row marked again with its frame begun. -/
theorem test_warm_undoes :
    let opened := after .openSlip (slip .openStory [packBytes 0x41 0x42 0 0, 0, 0] base)
    let extended := after .extendSlip (slip .extend [2, 1] base)
    let finishing : State := { opened with path := { opened.path with port := some (.slip (.result 512 1 2 3)) } }
    let sending : State := { base with links := { table := [(0, { state := .awake, frame := some (.blank 1 5), hand := some ⟨1, 1, 5, true, some []⟩ })] } }
    ((after .warmRestart opened).story 5).custody = .free ∧ ((after .warmRestart opened).position 1).hand = [1, 2]
      ∧ ((after .warmRestart extended).story 2).chain = [17, 18] ∧ ((after .warmRestart extended).story 2).filling = none
      ∧ ((after .warmRestart finishing).story 5).custody = .held 1 ∧ (after .warmRestart sending).dirtyMap 1 = 0x20
      ∧ (after .warmRestart base).dir = base.dir ∧ (after .warmRestart base).desk = base.desk
      ∧ (after .passive { base with set := { maxRate := 2, workingMax := 3 } }).set.workingMax = 5 := by decide +kernel

/-- R8, R10: a LOCKED-WRITE of one byte merges under the pair's verdict, one of no byte only closes the pair, and one of a word that does not
decode fails. -/
theorem test_locked_merge :
    let t := after (.lockedWrite 1 16384 0b0010 0x00004200 none) paired
    t.byte 16385 = 0x42 ∧ t.path.pair = none ∧ .screenWrite ⟨1, 0, 0, 0, 1, 1⟩ ∈ t.notices
      ∧ (after (.lockedWrite 1 16384 0 9 none) paired) = { paired with path := { paired.path with pair := none, answer := some ⟨1, .done, none⟩ } }
      ∧ (after (.lockedWrite 1 16384 1 9 none) { paired with flaws := [(16384, .uncorrected)] }).path.answer = some ⟨1, .fail, none⟩ := by
  decide +kernel

/-- R8, R55, R160: a held TAKE takes the story its word 2 names; a held pick picks. -/
theorem test_deferred_work :
    let s := slip .take [0, 3] base
    let take : State := { s with slip := { s.slip with service := s.slip.service.map fun v => { v with phase := .held .take } } }
    let t := after .deferredWorkAtPairClose take
    (t.story 3).custody = .held 1 ∧ (t.story 3).takeTime = 1000 ∧ t.basketOf 0 = [] ∧ (t.position 1).hand = [1, 2, 3]
      ∧ t.notices = [.basket 0, .hand 1] ∧ answer t = some (3, 0, result 0x10 1 0 0)
      ∧ ((after .deferredWorkAtPairClose { queued with page := { queued.page with pickHeld := true }, set := { state := .ready } }).pageAt 0).state
          = .sending
      ∧ after .deferredWorkAtPairClose paired = paired := by decide +kernel

/-- R101: a moved position whose rows are all dirty sends nothing; with one clean row it sends one notice. -/
theorem test_position_moves :
    let move (map : BitVec 24) := after .positionSlip (chiefSlip .position [1, packBytes 1 0 1 0, packBytes 0 2 0 0] { base with screen := { dirty := [(1, map)] } })
    (move 0xFFFFFF).notices = [] ∧ (move 0xFFFFFF).dirtyMap 1 = 0xFFFFFF ∧ (move 0xFFFFFE).notices = [.dirty 0 2]
      ∧ (move 0xFFFFFE).dirtyMap 1 = 0xFFFFFF := by decide +kernel

/-- R32, R164: a TRIM of a placed story tells the Page Unit. -/
theorem test_trim_placed :
    let s : State := { base with dir := { base.dir with
      stories := [(2, { custody := .held 1, chain := [17, 18], placements := [(1, some (0, 0))] })] } }
    (after .trimSlip (slip .trim [2, 1] s)).notices = [.fitLength 2 1, .screenLength 2 1, .pageLength 2 1] := by decide +kernel

/-- O41: the notices of an opening and an ending. -/
theorem test_fit_bracket_notices : (after .fitOpeningNotice (noticed (.fitOpening 1) queued)).notices = [.screenFit 1, .pageFit 1]
    ∧ (after .fitOpeningNotice (noticed (.fitOpening 1) base)).notices = []
    ∧ (after .fitEndingNotice (noticed (.fitEnding 1 .full) bracketed)).notices = [.screenFit 1, .pageFit 1]
    ∧ (after .fitEndingNotice (noticed (.fitEnding 1 .full) base)).notices = [] := by decide +kernel

/-- R107, R108, R109: the fit row and the basket row of the example of section 6.5, composed and sent at once, and a blank fit row. -/
theorem test_status_rows_sent :
    let s (map : BitVec 24) (view : Option Nat) : State := { council with
      notices := [.dirty 0 0], screen := { views := [(45, ⟨view, 0, 16⟩)], dirty := [(45, map)] }
      links := { table := [(0, { state := .awake, drops := [(0, ⟨.present, 0, 24, 80, 1, true⟩)] })] } }
    let closed (t : State) : State := { t with page := { editions := [(1, ⟨false, none⟩)] } }
    let sent (t : State) := ((after (.dirtyNotice 0) t).link 0).frame
    sent (closed (s 0xC00000 (some 9))) = some (.row 0 22 (ascii "COUNCIL VOTE CURR  L  37  E3 H 34 OVER   3" ++ spaces 22))
      ∧ (after (.dirtyNotice 0) (closed (s 0xC00000 (some 9)))).dirtyMap 45 = 0x800000
      ∧ sent (s 0x400000 none) = some (.blank 0 22)
      ∧ sent (s 0x800000 none) = some (.row 0 23 (ascii "DESK04    5 F 1 A  2 D 1:47 H2 HARBOUR FIRE" ++ spaces 21)) := by decide +kernel

/-- R117, R123: a WAKE with no ABSENT drop leaves a stopped link as it is. -/
theorem test_census_of_none :
    let s := linkTwo { state := .awake, drops := (List.range 8).map fun d => (d, present) }
    after (.wake 2) s = s := by decide +kernel

/-- R122, R123: a HELLO in OFF stores its values when it calls a wake, and does nothing while retry-due is clear. -/
theorem test_hello_off : ((after (.hello 2 0x134018B1) (linkTwo { state := .off, retryDue := true })).link 2).drop 5 = ⟨.absent, 0, 24, 64, 0, false⟩
    ∧ ((after (.hello 2 0x134018B1) (linkTwo { state := .off, retryDue := true })).link 2).state = .waking
    ∧ after (.hello 2 0x134018B1) (linkTwo { state := .off }) = linkTwo { state := .off } := by decide +kernel

/-- R45, R71, R162: a tick in PASSIVE counts the Clock and the pair; the tick that brings a bracket's time or the lock limit to 0 ends it. -/
theorem test_tick_ends :
    let idle : State := { State.reset with path := { State.reset.path with pair := some ⟨0, 0, .openArea, 1⟩ } }
    let b := after .msTick (running 1)
    let l := after .msTick (setting attempt1)
    after .msTick idle = { idle with clock := { idle.clock with ms := 1 }, path := { idle.path with pair := some ⟨0, 0, .openArea, 2⟩ } }
      ∧ (b.bracketAt 0).inUse = false ∧ (b.story 1).lastBracket = .time
      ∧ b.notices.take 3 = [.screenEnding 1 .time, .fitEnding 1 .time, .pageEnding 1 .time]
      ∧ (l.pageAt 0).state = .queued ∧ (l.pageAt 0).lastOutcome = .lockLimit ∧ (l.pageAt 0).attempts = 0 ∧ l.page.lockLeft = none
      ∧ .cancel .lockLimit ∈ l.notices := by decide +kernel

/-- R156, R159, R160, R164: a RELEASE with the link READY picks at once, but not with a story that is not CURRENT, nor with a placement, a write or a
length of it on its way to the Fit Unit. -/
theorem test_release_picks :
    let run (ns : List Notice) (st : Story) := after .releaseSlip (slip .release [packBytes 1 7 0 0]
      { releasing page7 st with set := { state := .ready }, notices := ns })
    ((run [] placed).pageAt 0).state = .sending ∧ (run [] placed).page.queue = [0] ∧ (run [] placed).notices = [.lock 1]
      ∧ answer (run [] placed) = some (1, 1, result 0x10 0 0 0)
      ∧ ((run [] { placed with fit := { placed.fit with state := .queued } }).pageAt 0).state = .queued
      ∧ ((run [.fitPlacement 1 1] placed).pageAt 0).state = .queued ∧ (run [.fitPlacement 1 1] placed).page.queue = [0]
      ∧ ((run [.fitWrite ⟨1, 0, 0, 0, 1, 1⟩] placed).pageAt 0).state = .queued ∧ ((run [.fitLength 1 1] placed).pageAt 0).state = .queued
      ∧ ((run [.fitLength 2 1] placed).pageAt 0).state = .sending := by decide +kernel

/-- R160, R161, R174: an outcome taken with the link READY: the page stays QUEUED while its story is not CURRENT, and is picked again otherwise;
a placement notice on its way holds it. -/
theorem test_outcome_with_link_ready :
    let s (ns : List Notice) (st : FitState) : State := { setting attempt1 with
      notices := .outcome .timeout :: ns, set := { state := .ready }
      dir := { queued.dir with stories := [(1, { placed with fit := { placed.fit with state := st } })] } }
    let t := after .attemptOutcome (s [.ready] .current)
    ((after .attemptOutcome (s [] .counting)).pageAt 0).state = .queued ∧ ((after .attemptOutcome (s [] .counting)).pageAt 0).attempts = 1
      ∧ (t.pageAt 0).state = .sending ∧ (t.pageAt 0).attempts = 1 ∧ t.set.state = .sending ∧ t.page.lockLeft = none
      ∧ ((after .attemptOutcome (s [.fitPlacement 1 1] .current)).pageAt 0).state = .queued
      ∧ ((after .pageWriteNotice (noticed (.pageLength 1 1) laid)).pageAt 0).state = .stale := by decide +kernel

/-- A TEXT frame of `n` bytes in progress: one byte taken, one read ahead, and the read of copy line 2 waiting. -/
def cutting (n : Nat) : State :=
  let s := sendingPage (some (.text n [(0, 0x41)] false)) (.sending ⟨300, true, 0, 0, 2, [[(1, 0x42)]]⟩) 200
  { s with set := { s.set with request := some 16512 } }

/-- R168, R172, R175, R178, R183: a TEXT frame whose reads stop ends with what is read ahead: spoiled where that is too little, with no count,
and the start that waits for its end then follows; at READFAIL it is spoiled as it stands. -/
theorem test_text_is_cut :
    let gone (c : Instr) (n : Nat) := (after .setFrameSent (after c (cutting n))).set
    let fails : State := { cutting 3 with path := { base.path with port := some (.set 16448) }, flaws := [(16448, .uncorrected)] }
    (after (.maximumRateWrite [2]) (cutting 3)).set.tx = some (.text 3 [(0, 0x41), (1, 0x42)] true)
      ∧ (after (.maximumRateWrite [2]) (cutting 2)).set.tx = some (.text 2 [(0, 0x41), (1, 0x42)] false)
      ∧ (after (.maximumRateWrite [2]) (cutting 3)).set.startDue = true ∧ (gone (.maximumRateWrite [2]) 3).tx = some (.offer 2)
      ∧ (gone (.maximumRateWrite [2]) 2).tx = some (.offer 2) ∧ (gone .warmRestart 3).tx = some (.offer 5) ∧ (gone .warmRestart 3).spoiledTotal = 0
      ∧ (gone .passive 3).tx = none ∧ (gone .passive 3).state = .down
      ∧ (after .cancel (noticed (.cancel .withdrawn) (cutting 3))).set.tx = some (.text 3 [(0, 0x41), (1, 0x42)] true)
      ∧ (after .cancel (noticed (.cancel .withdrawn) (cutting 2))).set.tx = some (.text 2 [(0, 0x41), (1, 0x42)] false)
      ∧ (after .cancel (noticed (.cancel .readFail) (cutting 2))).set.tx = some (.text 2 [(0, 0x41)] true)
      ∧ (after .setReadGrant fails).set.tx = some (.text 3 [(0, 0x41)] true) ∧ .outcome .readFail ∈ (after .setReadGrant fails).notices := by
  decide +kernel

/-- R171: the transmitter takes bytes of the oldest line, and a line whose bytes are all taken frees its place for the next read. -/
theorem test_transmitter_takes :
    let s (ahead : List (List (Nat × Byte))) (request : Option Nat) : State :=
      let s := open_ (sendingPage (some (.text 256 [] false)) (.sending ⟨300, true, 0, 0, 2, ahead⟩) 200)
      { s with set := { s.set with request } }
    let two : List (List (Nat × Byte)) := [[(0, 0x41), (1, 0x42)], [(64, 0x43)]]
    let t := (after (.arbiterDecision false ⟨[], 1⟩) (s two (some 16512))).set
    let u := (after (.arbiterDecision false ⟨[], 2⟩) (s two none)).set
    t.tx = some (.text 256 [(0, 0x41)] false) ∧ t.stage = .sending ⟨300, true, 0, 0, 2, [[(1, 0x42)], [(64, 0x43)]]⟩
      ∧ u.tx = some (.text 256 [(0, 0x41), (1, 0x42)] false) ∧ u.stage = .sending ⟨300, true, 0, 0, 2, [[(64, 0x43)]]⟩
      ∧ u.request = some 16512 ∧ supply 3 two = ([(0, 0x41), (1, 0x42), (64, 0x43)], []) := by decide +kernel

/-- R171: PLACE-END waits for the last copy line of the sending pass, which holds fill alone here. -/
theorem test_place_end_waits :
    let pass : SendPass := ⟨1, true, 0, 0, 1, []⟩
    let s := sendingPage (some (.text 1 [(0, 0x41)] false)) (.sending pass) 100
    let t := after .setFrameSent { s with set := { s.set with request := some 16448 } }
    let r : State := { t with set := { t.set with request := none }, path := { t.path with port := some (.set 16448) } }
    t.set.tx = none ∧ t.set.stage = .sending { pass with sent := 1, pos := 1 } ∧ (after .setReadGrant r).set.tx = some (.placeEnd 0)
      ∧ (after .setReadGrant r).set.stage = .sending { pass with sent := 1, pos := 1, nextLine := 2 } := by decide +kernel

/-- R172: a spoiled frame keeps the bytes that were read ahead, and is read again from the first of them. -/
theorem test_spoiled_with_ahead :
    let s := cutting 3
    let t := (after .textFrameSpoiled { s with set := { s.set with tx := some (.text 3 [] false) } }).set
    t.tx = some (.text 3 [(1, 0x42)] true) ∧ t.request = some 16384 ∧ t.spoiled = 1 ∧ t.spoiledTotal = 1
      ∧ (after .textFrameSpoiled (after .passive (cutting 3))).set = (after .passive (cutting 3)).set := by decide +kernel

/-! ### Boundary cases of the wider clauses -/

/-- O45: R117: a dirty notice taken, and a row frame that ends, while a census HELLO-REQ is on the pair, take the turn at once. -/
theorem test_turn_beside_a_census :
    let s : State := { awake viewing with screen := { viewing.screen with dirty := [(1, 6)] } }
    let link (s : State) (l : Link) : State := { s with links := { table := [(0, l)] } }
    let census := noticed (.dirty 0 1) (link s { s.link 0 with frame := some (.helloReq 2), control := [.helloReq 3] })
    let row := link s { s.link 0 with turning := true, frame := some (.blank 1 0), hand := some ⟨1, 1, 0, true, some []⟩, control := [.helloReq 3] }
    let t := after (.dirtyNotice 0) census
    let u := after (.rowFrameEnd 0) row
    t.screen.requests = [⟨0, 17408 + 256⟩] ∧ (t.link 0).hand = some ⟨1, 1, 1, false, none⟩ ∧ (t.link 0).frame = some (.helloReq 2)
      ∧ (t.link 0).turn = 2 ∧ t.screen.dirty = [(1, 4)]
      ∧ u.screen.requests = [⟨0, 17408 + 256⟩] ∧ (u.link 0).hand = some ⟨1, 1, 1, false, none⟩ ∧ (u.link 0).frame = some (.helloReq 3)
      ∧ (u.link 0).rowsSent = 1 ∧ (u.link 0).turn = 2 := by decide +kernel

/-- O45: R106, R109: a copy line of a block still being filled, and one at the known length, are sent blank. -/
theorem test_rows_outside :
    let s (view : View) (st : Story) : State := noticed (.dirty 0 1) { awake base with
      dir := { base.dir with stories := [(2, st)] }, screen := { views := [(1, view)], dirty := [(1, 1)] } }
    let two : Story := { custody := .held 1, chain := [17, 18] }
    let sent (t : State) := ((after (.dirtyNotice 0) t).link 0).frame
    sent (s ⟨some 2, 16, 32⟩ { two with filling := some 1 }) = some (.blank 1 0)
      ∧ sent (s ⟨some 2, 16, 16⟩ two) = some (.blank 1 0)
      ∧ (after (.dirtyNotice 0) (s ⟨some 2, 15, 16⟩ { two with filling := some 1 })).screen.requests = [⟨0, 17408 + 960⟩] := by decide +kernel

/-- O17: R50: a warm restart lists the slip in service and every waiting post, with their agents, behind an abandonment in progress. -/
theorem test_warm_abandons :
    let s : State := { base with slip := { service := some ⟨1, 3, [0], false, .dispatched .noop, .nothing⟩, pendingLists := [(2, [5, 7])] } }
    let t := (after .warmRestart s).slip
    let u := (after .warmRestart { s with slip := { s.slip with abandon := [(9, 1)], affected := [9], heldPosts := [(3, 7)] } }).slip
    t.abandon = [(1, 3), (2, 5), (2, 7)] ∧ t.request = some (.abandoned (512 + 96)) ∧ t.service = none ∧ 1 ∈ t.affected ∧ 2 ∈ t.affected
      ∧ u.abandon = [(9, 1), (1, 3), (2, 5), (2, 7)] ∧ u.heldPosts = [(3, 7)] ∧ 9 ∈ u.affected ∧ u.request = some (.abandoned (9 * 512 + 32)) := by
  decide +kernel

/-- O19: R7, R10: a merged write of a held, placed story's word sends the notices of a whole one, behind the record of a corrected word. -/
theorem test_merge_notices :
    let s : State := { queued with flaws := [(16384, .corrected), (16388, .uncorrected)] }
    let t := after (.write 1 16384 0b0001 5 (some 1)) (open_ s)
    let w : WriteNote := ⟨1, 0, 0, 0, 1, 1⟩
    t.notices = [.fault ⟨.store, 2, 16384, true, false⟩, .screenWrite w, .fitWrite w, .deskWrite w, .pageWrite w]
      ∧ t.flaws = [(16388, .uncorrected)] ∧ t.mem = [(16384, 5)] := by decide +kernel

/-- O21: R8, R12: a LOCKED-READ of a corrected word opens its pair; one that is uncorrected, refused or retried opens none; a LOCKED-WRITE with no
pair is a WRITE. -/
theorem test_locked_reads :
    let run (flaws : Table Ecc) := after (.lockedRead 1 16384 (some 1)) (open_ { base with flaws })
    (run [(16384, .corrected)]).path.pair = some ⟨1, 16384, .accepted 1 0, 0⟩ ∧ (run [(16384, .corrected)]).path.scrubQueue = [16384]
      ∧ (run [(16384, .corrected)]).notices = [.fault ⟨.store, 1, 16384, true, false⟩]
      ∧ (run [(16384, .uncorrected)]).path.pair = none ∧ (run [(16384, .uncorrected)]).path.answer = some ⟨1, .fail, none⟩
      ∧ (after (.lockedRead 2 16384 (some 1)) (open_ base)).refusalOf 2 = ⟨1, 16384, .wrongagent⟩
      ∧ (after (.lockedRead 2 16384 (some 1)) (open_ base)).path.pair = none
      ∧ (after (.lockedRead 1 16384 (some 1)) (open_ working)).path.answer = some ⟨1, .retry, none⟩
      ∧ (after (.lockedRead 1 16384 (some 1)) (open_ working)).path.pair = none
      ∧ (after (.lockedWrite 1 16384 0xF 9 (some 1)) (open_ base)).wordAt 16384 = 9 := by decide +kernel

/-- O21: log 62: with a slip and a pick held, the first command takes the slip alone, and the next one tests the pick. -/
theorem test_slip_before_pick :
    let s := chiefSlip .send [9, 0] { queued with page := { queued.page with pickHeld := true }, set := { state := .ready } }
    let held : State := { s with slip := { s.slip with service := s.slip.service.map fun v => { v with phase := .held .send } } }
    let t := after .deferredWorkAtPairClose held
    answer t = some (0, 0, result 0x17 0 0 0) ∧ t.page.pickHeld = true ∧ (t.pageAt 0).state = .queued
      ∧ ((after .deferredWorkAtPairClose t).pageAt 0).state = .sending := by decide +kernel

/-- O24: R41: of two uncorrectable words the first is named and both are recorded; an uncorrectable word 7 is read as POSTED. -/
theorem test_capture_flaws :
    let run (flaws : Table Ecc) := after .capture (capturing (packBytes 0 0x80 0 0) flaws)
    let two := run [(516, .uncorrected), (532, .uncorrected)]
    answer two = some (0, 0, result 0x13 1 1 0) ∧ two.slip.service.map (·.attention) = some true
      ∧ two.notices = [.fault ⟨.store, 4, 516, true, true⟩, .fault ⟨.store, 4, 532, true, true⟩]
      ∧ (run [(512, .uncorrected)]).slip.service.map (·.attention) = some false
      ∧ (run [(540, .uncorrected)]).slip.service.map (·.phase) = some (.dispatched .noop)
      ∧ (run [(540, .uncorrected)]).notices = [.fault ⟨.store, 4, 540, true, true⟩]
      ∧ answer (run [(536, .uncorrected), (540, .uncorrected)]) = some (0, 0, result 0x13 6 1 0) := by decide +kernel

/-- O50: R130, R143: a frame begun before a LINEHOLD, with the settings it began under; log 64: the break it may turn into. -/
theorem test_frame_begun :
    let begun (stopMark : Bool) : WireFrame := ⟨0xC1, true, stopMark, some ⟨4, 8, 0, 1⟩⟩
    let t := after (.character 2 (begun false)) (wire { held := true })
    ((after (.character 2 (begun true)) (wire { held := true })).line 2).fifo = [.char 0xC1 false]
      ∧ (t.line 2).heldFrame = some 0xC1 ∧ ((after (.returnToMark 2) t).line 2).fifo = [.char 0xC1 true]
      ∧ ((after (.wireBreak 2) t).line 2).breaks = 1 ∧ ((after (.wireBreak 2) t).line 2).heldFrame = none
      ∧ after (.wireBreak 2) (wire { held := true }) = wire { held := true } := by decide +kernel

/-- O51: R137: the 64th character with a space at position 32 or 62, at position 31 alone, and with none; and a space itself. -/
theorem test_wrap :
    let buf (q : Nat) : List Byte := List.replicate q 0x41 ++ [0x20] ++ List.replicate (62 - q) 0x42
    let run (c : Byte) (buf : List Byte) := after (.assemblerCharacter 2) (heading { fifo := [.char c false], take := .body, buf })
    let sent (t : State) := t.intake.requests.map (·.bytes)
    ((run 0x43 (buf 32)).line 2).buf = List.replicate 30 0x42 ++ [0x43]
      ∧ sent (run 0x43 (buf 32)) = [List.replicate 32 0x41 ++ [0x20] ++ List.replicate 31 0]
      ∧ ((run 0x43 (buf 62)).line 2).buf = [0x43] ∧ ((run 0x43 (buf 31)).line 2).buf = [] ∧ sent (run 0x43 (buf 31)) = [buf 31 ++ [0x43]]
      ∧ ((run 0x20 (buf 32)).line 2).buf = [] ∧ sent (run 0x20 (buf 32)) = [buf 32 ++ [0x20]]
      ∧ ((run 0x43 (buf 32)).line 2).copyLine = 1 := by decide +kernel

/-- O51: R139, R140: copy line 16 takes a second block, or truncates with none free, as copy line 1,024 does. -/
theorem test_blocks_and_room :
    let ending (n : Nat) : State := heading { fifo := [.char 0x0D false], take := .body, buf := [0x41], copyLine := n }
    let t := after (.assemblerCharacter 2) { ending 16 with path := { regions := ⟨16, 16, 3, 0⟩ } }
    let u := after (.assemblerCharacter 2) { ending 16 with path := { regions := ⟨16, 16, 0, 0⟩ } }
    let w := after (.assemblerCharacter 2) { ending 1024 with path := { regions := ⟨16, 16, 64, 0⟩ } }
    (t.story 2).chain.length = 2 ∧ (t.story 2).filling = some 1 ∧ (t.line 2).full = some ([0x41, 0x01] ++ List.replicate 62 0)
      ∧ t.intake.requests.map (·.fill) = [true] ∧ (t.line 2).take = .body
      ∧ (u.line 2).take = .truncating ∧ (u.line 2).discarded = 64 ∧ (u.story 2).truncated = true ∧ u.notices = [.mark 2]
      ∧ (w.line 2).take = .truncating ∧ (w.story 2).chain = [17] := by decide +kernel

/-- O51: R135, R136, R141: the characters that are dropped or discarded, and the entries that end a take, in each take state. -/
theorem test_take_ends :
    let run (e : Entry) (l : Line) := after (match e with | .char .. => .assemblerCharacter 2 | .mark _ => .assemblerMarker 2)
      (heading { l with fifo := [e] })
    let start : Entry := .char 0x02 false
    ((run (.char 0x41 false) { take := .truncating }).line 2).discarded = 1 ∧ ((run (.char 0x03 true) { take := .discarding }).line 2).discarded = 1
      ∧ ((run (.char 0x07 false) { take := .body }).line 2).buf = [] ∧ ((run (.char 0x07 false) { take := .body }).line 2).discarded = 0
      ∧ ((run (.char 0x03 false) { take := .body }).line 2).take = .ending ∧ ((run (.char 0x03 false) { take := .body }).story 2).truncated = false
      ∧ ((run (.char 0x03 false) { take := .truncating }).line 2).take = .ending
      ∧ ((run start { take := .body }).line 2).startPending = true ∧ ((run start { take := .body }).story 2).truncated = true
      ∧ ((run start { take := .truncating }).story 2).truncated = false ∧ (run start { take := .body, buf := [0x41] }).intake.requests.length = 1
      ∧ ((run (.mark .silence) { take := .body }).story 2).truncated = true
      ∧ ((run (.mark .silence) { take := .discarding }).line 2).take = .idle ∧ ((run (.mark .silence) {}).line 2).take = .idle
      ∧ ((run (.mark .gap) { take := .truncating }).story 2).gapped = true ∧ ((run (.mark .gap) { take := .discarding }).story 2).gapped = false
      ∧ ((run (.char 0x03 false) { take := .header, outstanding := true, fill := some (17, 0) }).story 2).slug = blankSlug
      ∧ ((run (.char 0x03 false) { take := .header, outstanding := true, fill := some (17, 0), header := chars "UX" }).story 2).slug
          = ascii "NOSLUG" ++ spaces 6
      ∧ ((run (.char 0x03 false) { take := .header, outstanding := true, fill := some (17, 0), header := chars "UX" }).line 2).full
          = some (ascii "UX" ++ List.replicate 62 0) := by decide +kernel

/-- O51: R135: a failed header of 200 characters of which 63 are text enters the body whole. -/
theorem test_header_fails :
    let header : List (Byte × Bool) := List.replicate 62 (0x41, false) ++ List.replicate 137 (0x07, false)
    let t := after (.assemblerCharacter 2) (heading { fifo := [.char 0x42 false], take := .header, header, fill := some (17, 0), outstanding := true })
    (t.line 2).take = .body ∧ (t.line 2).buf = List.replicate 62 0x41 ++ [0x42] ∧ (t.line 2).header = [] ∧ (t.story 2).cls = .routine := by
  decide +kernel

/-- O51: R134, R142: a delivery with a start pending opens the next take in the same event. -/
theorem test_delivery_starts :
    let s : State := { heading { take := .ending, startPending := true } with path := { regions := ⟨16, 16, 3, 0⟩ } }
    let t := after (.delivery 2) s
    (t.story 2).custody = .basket 4 ∧ (t.story 1).custody = .intake 2 ∧ (t.line 2).take = .header ∧ (t.line 2).story = 1
      ∧ (t.line 2).startPending = false ∧ (t.line 2).delivered = 1 ∧ t.intake.requests.length = 1 ∧ t.notices = [.basket 4] := by decide +kernel

/-- O57, O58: R167, R174: malformed frames, and answers where no answer is awaited. -/
theorem test_bad_answers :
    let bad (bytes : List Byte) := (after (.badFrame bytes) base).set.badFrames
    let ans (l : SetLink) := (after (.setAnswer (setFrameBytes 0x82 [3, 1] false)) (setLink l)).set.outOfTurn
    let ref (l : SetLink) := (after (.refuseAnswer (setFrameBytes 0x83 [3, 1, 2] false)) (setLink l)).set.outOfTurn
    bad [0xA5, 0x82, 0x01, 0x01] = 1 ∧ bad (setFrameBytes 0x84 [] false) = 1 ∧ bad (setFrameBytes 0x82 [3] false) = 1
      ∧ bad (setFrameBytes 0x83 [3, 1, 0] false) = 1 ∧ bad (setFrameBytes 0x83 [3, 1, 4] false) = 1 ∧ bad (setFrameBytes 0x83 [3, 1, 3] false) = 0
      ∧ ans {} = 1 ∧ ans { state := .starting } = 1 ∧ ans { state := .ready } = 1 ∧ ans { state := .sending, attempt := some ⟨3, 1, 1, 0, []⟩ } = 1
      ∧ ref { state := .ready } = 1 ∧ ref { state := .sending, attempt := some ⟨3, 1, 1, 0, []⟩ } = 1 ∧ ref { (awaiting 0).set with rx := [] } = 0 := by
  decide +kernel

/-- O59: R172, R175: a spoiled TEXT frame is sent again with the same length, waits while held, and after the eighth gives UNDERFLOW and a
PAGE-CANCEL. -/
theorem test_spoiled_again :
    let s (n : Nat) (held : Bool) : State :=
      let s := sendingPage (some (.text 70 [(64, 0x41)] true)) (.sending ⟨70, true, 0, 64, 1, []⟩) 200
      { s with set := { s.set with spoiled := n, held, request := if n < 8 then some 16448 else none } }
    (after .setFrameSent (s 7 false)).set.tx = some (.text 70 [] false) ∧ (after .setFrameSent (s 7 true)).set.tx = none
      ∧ (after .setFrameSent (s 8 false)).set.tx = some (.pageCancel 2 5 .underflow) ∧ (after .setFrameSent (s 8 true)).set.tx = none
      ∧ (after .setFrameSent (s 8 true)).set.cancel = some .underflow ∧ (after .setFrameSent (s 8 false)).notices = [.outcome .underflow]
      ∧ (after .setFrameSent { s 3 false with set := { (s 3 false).set with cancel := some .withdrawn } }).set.tx
          = some (.pageCancel 2 5 .withdrawn) := by decide +kernel

/-- O21: R8, log 72: a SEND held for story 1 is taken when a LOCKED-READ has closed its pair and opened one on story 2, and waits while one stands on
story 1; the held pick likewise. -/
theorem test_deferred_past_another_pair :
    let held := after .sendSlip (slip .send [1, 0] paired)
    let other := after (.lockedRead 1 17408 (some 1)) held
    let same := after (.lockedRead 1 16388 (some 1)) held
    let pick (n : Nat) : State := { queued with
      page := { queued.page with pickHeld := true }, set := { state := .ready }
      path := { queued.path with pair := some ⟨1, 16384, .accepted n 0, 0⟩ } }
    other.pairStory = some 2 ∧ answer (after .deferredWorkAtPairClose other) = some (0, 2, result 0x10 0 0 0)
      ∧ (after .deferredWorkAtPairClose other).path.pair = other.path.pair
      ∧ same.pairStory = some 1 ∧ after .deferredWorkAtPairClose same = same
      ∧ ((after .deferredWorkAtPairClose (pick 2)).pageAt 0).state = .sending ∧ after .deferredWorkAtPairClose (pick 1) = pick 1 := by decide +kernel

/-- O24: Tables 3-4, 2-4, 4-1, 5-2, 8-3 and R177 by their codes. -/
theorem test_kinds : kindOf 0 0x04 = some .faults ∧ kindOf 0 0x11 = some .desk ∧ kindOf 1 0x04 = some .adopt ∧ kindOf 1 0x0A = some .recall
    ∧ kindOf 3 0x02 = some .unspec ∧ kindOf 4 0x07 = some .setstat ∧ kindOf 5 0x02 = some .lineresume ∧ kindOf 1 0x06 = none ∧ kindOf 6 0 = none
    ∧ SlipKind.privilegedKind .adopt = true ∧ SlipKind.forPosition .adopt = false ∧ SlipKind.privilegedKind .linestat = false := by decide +kernel

/-- O42: R85, R90: the outcomes of a count of 5 lines against holes of 5, 4 and 6 lines, and of a count with no line to read. -/
theorem test_outcomes :
    let budgets : List Budget := [⟨1, 5, 0, none⟩, ⟨2, 4, 0, some 17⟩, ⟨3, 6, 1, none⟩]
    let s := atLine 15 counted
    let s : State := { s with fit := { s.fit with count := s.fit.count.map fun c => { c with walk := { c.walk with lines := 5, budgets } } } }
    let f := ((after .fitReadGrant s).story 1).fit
    let empty : State := { queued with fit := { queue := [1] }, dir := { queued.dir with stories := [(1, { placed with filling := some 0 })] } }
    let g := ((after .countStart empty).story 1).fit
    f.outcome 1 = ⟨.fits, 5, 0, none⟩ ∧ f.outcome 2 = ⟨.over, 4, 1, some 17⟩ ∧ f.outcome 3 = ⟨.short, 6, 1, none⟩ ∧ f.outcome 4 = {}
      ∧ f.depth = 120 ∧ f.state = .current
      ∧ g.lines = 0 ∧ g.outcome 1 = ⟨.short, 4, 4, none⟩ ∧ g.outcome 2 = {} ∧ g.state = .current := by decide +kernel

/-- O45: R117: a row whose position has left the drop is dropped, and one whose drop is no longer PRESENT is marked again. -/
theorem test_row_given_up :
    let s := fetching []
    let moved : State := { s with dir := { s.dir with positions := [(1, ⟨true, 0, 1, 0, 2, false, [1, 2]⟩)] } }
    let faulty : State := { s with links := { table := [(0, { s.link 0 with drops := [(1, ⟨.faulty, 32, 24, 80, 1, true⟩)] })] } }
    let a := after .screenFetchGrant moved
    let b := after .screenFetchGrant faulty
    (a.link 0).hand = none ∧ (a.link 0).frame = none ∧ a.screen.dirty = [] ∧ a.notices = []
      ∧ (b.link 0).hand = none ∧ (b.link 0).frame = none ∧ b.screen.dirty = [(1, 2)] ∧ b.notices = [.dirty 0 1] := by decide +kernel

/-- O46, O47: R105, R121, R122: the marks at the end of a wake, at its eighth answer and at a HELLO in AWAKE; the first turn takes row 0. -/
theorem test_wake_marks :
    let all (st : DropState) := (List.range 8).map fun d => (d, { present with state := if d = 5 then DropState.absent else st, answered := d != 5 })
    let w := after (.wakeWindowEnd 2) (waking (some 20) 1 [(3, present), (5, present)])
    let last (st : DropState) (try_ : Nat) (header : BitVec 32) := after (.hello 2 header) (waking (some 3) try_ (all st))
    let bad := makeHeader 0xB1 0x17 0x40
    let busy : Link := { idling with hand := some ⟨33, 3, 4, false, none⟩ }
    w.dirtyMap 33 = 0xFFFFFE ∧ w.dirtyMap 30 = 0xFFFFFF ∧ ((w.link 2).hand.map fun h => (h.position, h.row)) = some (33, 0) ∧ (w.link 2).turn = 4
      ∧ ((last .absent 1 0x134018B1).link 2).state = .awake ∧ (last .absent 1 0x134018B1).dirtyMap 30 = 0xFFFFFE
      ∧ (last .absent 1 0x134018B1).dirtyMap 33 = 0
      ∧ ((last .present 1 bad).link 2).state = .awake ∧ (last .present 1 bad).dirtyMap 33 = 0xFFFFFE ∧ (last .present 1 bad).dirtyMap 30 = 0
      ∧ ((last .absent 2 bad).link 2).wakeTry = 3 ∧ ((last .absent 2 bad).link 2).drop 5 = { present with rows := 23, columns := 64, version := 0, state := .absent }
      ∧ ((last .absent 3 bad).link 2).state = .off
      ∧ (last .absent 3 bad).notices = [.fault ⟨.screen, 3, 21, true, true⟩, .fault ⟨.screen, 1, 2, true, true⟩]
      ∧ (after (.hello 2 0x134018B1) (linkTwo busy)).dirtyMap 30 = 0xFFFFFF ∧ (after (.hello 2 0x134018B1) (linkTwo busy)).dirtyMap 33 = 0
      ∧ (after (.hello 2 0x134018B1) (linkTwo idling)).dirtyMap 30 = 0xFFFFFE := by decide +kernel

/-- O47: R115: a corrected header raises the count of its link and is taken as the clean one. -/
theorem test_corrected :
    let s := linkTwo { idling with corrected := 65534 }
    let counted := linkTwo { idling with corrected := 65535 }
    after (.hello 2 (0x134018B1 ^^^ 0x10)) s = after (.hello 2 0x134018B1) counted
      ∧ after (.rowbad 2 (makeHeader 0xB2 23 0 ^^^ 0x100)) s = after (.rowbad 2 (makeHeader 0xB2 23 0)) counted
      ∧ after (.ignoredUpstreamFrame 2 (makeHeader 0xB0 3 0 ^^^ 0x20000000)) s = after (.ignoredUpstreamFrame 2 (makeHeader 0xB0 3 0)) counted
      ∧ ((after (.hello 2 (0x134018B1 ^^^ 0x10)) counted).link 2).corrected = 65535 := by decide +kernel

/-- O51: R138, R139: a complete buffer is handed at the end of the write before it, and waits through a fill to its last grant. -/
theorem test_buffer_waits :
    let bytes : List Byte := 0x41 :: List.replicate 63 0
    let text := granted ⟨2, 2, 0, 17408, false, List.replicate 64 0x41⟩ { take := .body, full := some bytes, copyLine := 1 }
    let fill (i : Nat) : State :=
      let s := granted ⟨2, 2, i, 17408 + i * 64, true, List.replicate 64 0⟩ { take := .body, full := some bytes, fill := some (17, i) }
      { s with dir := { stories := [(2, { custody := .intake 2, chain := [17], filling := some 0 })] } }
    let a := after .intakeWriteGrant text
    let b := after .intakeFillGrant (fill 14)
    let c := after .intakeFillGrant (fill 15)
    a.intake.requests = [⟨2, 2, 1, 17472, false, bytes⟩] ∧ (a.line 2).full = none ∧ (a.line 2).copyLine = 2 ∧ (a.line 2).outstanding = true
      ∧ (b.line 2).full = some bytes ∧ b.intake.requests.map (·.fill) = [true]
      ∧ c.intake.requests = [⟨2, 2, 0, 17408, false, bytes⟩] ∧ (c.line 2).full = none ∧ (c.line 2).copyLine = 1 ∧ (c.line 2).fill = none
      ∧ (c.story 2).filling = none ∧ c.notices = [.screenLength 2 1] := by decide +kernel

/-- O55: R159, R160: a scan passes a page whose story is not CURRENT, returns one that is over, and picks the next, here with two placements; the
ending of a bracket scans too; a pair on one of the stories holds the pick. -/
theorem test_scan :
    let story (st : FitState) (k : Nat) : Story := { placed with placements := [(1, some (k, 0))], fit := { placed.fit with state := st } }
    let x (n : Nat) : Placement := ⟨n, 1, 2, 100, .refuse, none⟩
    let s (m : Notice) : State := { base with
      notices := [m], set := { state := .ready }
      dir := { base.dir with stories := [(1, story .queued 0), (2, { story .current 1 with fit := oversetStory.fit }), (3, story .current 2), (4, story .current 2)] }
      page := {
        pages := [(0, { page7 with placements := [(0, x 1)] }), (1, { page7 with number := 8, placements := [(0, x 2)] }),
          (2, { page7 with number := 9, placements := [(0, x 3), (5, { x 4 with mode := .cut })] })]
        queue := [0, 1, 2], bracketed := [3] } }
    let free (m : Notice) : State := { s m with page := { (s m).page with bracketed := [] } }
    let t := after .pageEndingNotice (s (.pageEnding 3 .full))
    let held := after .ready { free .ready with path := { base.path with pair := some ⟨1, 0, .accepted 4 0, 0⟩ } }
    t.page.queue = [2, 0] ∧ (t.pageAt 1).state = .returned ∧ (t.pageAt 2).state = .sending ∧ t.notices = [.lock 3, .lock 4]
      ∧ t.page.bracketed = [] ∧ t.set.tx = some (.pageOpen 1 9 2 1000) ∧ (t.set.attempt.map fun a => a.todo.map (·.index)) = some [0, 5]
      ∧ t.locked 3 = true ∧ t.locked 4 = true ∧ (after .ready (s .ready)).page.queue = [0, 2] ∧ (after .ready (free .ready)).page.queue = [2, 0]
      ∧ held.page.pickHeld = true ∧ held.page.queue = [0, 2] ∧ (held.pageAt 2).state = .queued := by decide +kernel

/-- O59: R171: text of fill alone: PLACE-END directly after PLACE, with the sending pass still to read; what is left of its reads ends with it. An end
of 0 reads nothing. -/
theorem test_text_of_fill :
    let s : State :=
      let s := sendingPage (some (.place (story9 200) 0)) (.sending ⟨0, true, 0, 0, 0, []⟩) 200
      { s with set := { s.set with request := some 16384 } }
    let t := after .setFrameSent s
    let u := after .setFrameSent t
    let r := after .setFrameSent { t with set := { t.set with request := none }, path := { t.path with port := some (.set 16384) } }
    t.set.tx = some (.placeEnd 0) ∧ t.set.request = some 16384 ∧ u.set.tx = some (.pageClose 2 5) ∧ u.set.request = none ∧ u.notices = [.placeEnd 0]
      ∧ r.path.orphan = true ∧ (after .setReadGrant r).set = r.set
      ∧ (after .setFrameSent (sendingPage (some (.pageOpen 2 5 1 77)) .opening 0)).set.tx = some (.place (story9 0) 0)
      ∧ (after .setFrameSent (sendingPage (some (.place (story9 0) 0)) (.sending ⟨0, true, 0, 0, 0, []⟩) 0)).set.tx = some (.placeEnd 0) := by
  decide +kernel

end Sys2Proof.Tests
end

section
/-! PROOF. STORYSTAT (R35): the flags as a sum of bits, and the answer of each of its three cases. -/

namespace Sys2Proof.Machine

/-! ### The flags of the answer -/

/-- A bit at a place is the place's weight when it is set. -/
theorem mul_toNat_eq_ite (k : Nat) (b : Bool) : k * b.toNat = if b then k else 0 := by
  cases b <;> simp

/-- A bit that says whether a value is there is the place's weight unless the value is missing. -/
theorem mul_isSome_toNat_eq_ite {α : Type} [DecidableEq α] (k : Nat) (o : Option α) : k * o.isSome.toNat = if o = none then 0 else k := by
  cases o <;> simp

/-- R35: TRUNC, GAP, the setting lock and an open bracket, at their weights in word 5 byte 2. -/
theorem State.storyFlags_eq (s : State) (n : Nat) :
    s.storyFlags n = (if (s.story n).truncated then 1 else 0) + (if (s.story n).gapped then 2 else 0) + (if s.locked n then 4 else 0)
      + if (s.story n).bracketRef = none then 0 else 8 := by
  have htrunc := mul_toNat_eq_ite 1 (s.story n).truncated
  rw [Nat.one_mul] at htrunc
  unfold State.storyFlags
  dsimp only
  rw [htrunc, mul_toNat_eq_ite, mul_toNat_eq_ite, mul_isSome_toNat_eq_ite]

/-! ### The cases of STORYSTAT -/

/-- STORYSTAT refuses the story numbers 0 and above 2047. -/
theorem storyNumber_out_of_range_iff {n : Nat} : (n < 1 ∨ Config.storyCount < n) ↔ (n = 0 ∨ 2047 < n) :=
  or_congr_left Nat.lt_one_iff

section
variable {s : State} {v : Service}

/-- A STORYSTAT in service is answered by the number of its story and then by the story's custody (R35). -/
theorem exec_storystatSlip_of_handed (h : s.handed .storystat v) :
    exec .storystatSlip s = .next (
      let n := (v.word 1).toNat
      let st := s.story n
      if n < 1 ∨ Config.storyCount < n then s.answered v 0 0 (result 0x13 1 0 0)
      else if st.custody = .free then s.answered v 0 0 (result 0x10 0 0 0)
      else s.answered v (packBytes st.chain.length (st.chain.length - st.filled) (s.storyFlags n) st.fit.state.number)
        (packBytes st.lastBracket.number st.placements.length (st.fit.lines % 256) (st.fit.lines / 256))
        (result 0x10 st.custody.number st.custody.place st.cls.number)) :=
  congrArg Host.Outcome.next (State.serve_handed _ h)

/-- R35: a number that no story has is BADARG with detail byte 1 = 1. -/
theorem exec_storystatSlip_badarg (h : s.handed .storystat v) (hn : (v.word 1).toNat = 0 ∨ 2047 < (v.word 1).toNat) :
    exec .storystatSlip s = .next (s.answered v 0 0 (result 0x13 1 0 0)) := by
  rw [exec_storystatSlip_of_handed h]
  exact congrArg Host.Outcome.next (if_pos (storyNumber_out_of_range_iff.mpr hn))

/-- R35: a FREE entry is DONE with zeros. -/
theorem exec_storystatSlip_free (h : s.handed .storystat v) (hn : ¬ ((v.word 1).toNat = 0 ∨ 2047 < (v.word 1).toNat))
    (hfree : (s.story (v.word 1).toNat).custody = .free) :
    exec .storystatSlip s = .next (s.answered v 0 0 (result 0x10 0 0 0)) := by
  rw [exec_storystatSlip_of_handed h]
  exact congrArg Host.Outcome.next ((if_neg (mt storyNumber_out_of_range_iff.mp hn)).trans (if_pos hfree))

/-- R35: the fields of a story that is not FREE, packed at their places in words 5 to 7. -/
theorem exec_storystatSlip_story (h : s.handed .storystat v) (hn : ¬ ((v.word 1).toNat = 0 ∨ 2047 < (v.word 1).toNat))
    (hfree : (s.story (v.word 1).toNat).custody ≠ .free) :
    exec .storystatSlip s = .next (
      let n := (v.word 1).toNat
      let st := s.story n
      s.answered v (packBytes st.chain.length (st.chain.length - st.filled) (s.storyFlags n) st.fit.state.number)
        (packBytes st.lastBracket.number st.placements.length (st.fit.lines % 256) (st.fit.lines / 256))
        (result 0x10 st.custody.number st.custody.place st.cls.number)) := by
  rw [exec_storystatSlip_of_handed h]
  exact congrArg Host.Outcome.next ((if_neg (mt storyNumber_out_of_range_iff.mp hn)).trans (if_neg hfree))

end

/-- Settles O33, by STORYSTAT's three cases; the numbers of the answer's fields are their own tables. -/
theorem storystatReadsAStory : Obligations.StorystatReadsAStory := by
  intro s v h n st state place class_ fit last flags
  split
  next hn => exact exec_storystatSlip_badarg h hn
  next hn =>
    split
    next hfree => exact exec_storystatSlip_free h hn hfree
    next hfree =>
      have hflags : s.storyFlags n = flags := s.storyFlags_eq n
      rw [← hflags]
      exact exec_storystatSlip_story h hn hfree

end Sys2Proof.Machine
end

section
/-! PROOF. NOOP (R47): a flag as a result word, and the answer of the slip in service. -/

namespace Sys2Proof.Machine

/-- A flag packed as a word is the word 1 when it is set and the word 0 when it is clear. -/
theorem packNat_toNat_eq_ite (b : Bool) : packNat b.toNat = if b then 1 else 0 := by
  cases b with
  | false => rfl
  | true => rfl

/-- A NOOP in service is answered DONE with the time-of-day and the clock-set flag, both read from the state it is answered in (R47). -/
theorem exec_noopSlip_of_handed {s : State} {v : Service} (h : s.handed .noop v) :
    exec .noopSlip s = .next (s.answered v (packNat s.clock.tod) (packNat s.clock.clockSet.toNat) (result 0x10 0 0 0)) := by
  have harm : exec .noopSlip s = execNoopSlip s := rfl
  rw [harm, execNoopSlip, State.serve_handed _ h, State.reply_answered]
  rfl

/-- Settles O26, by the answer of a NOOP in service; word 6 is the clock-set flag as 0 or 1. -/
theorem noopReturnsTheTime : Obligations.NoopReturnsTheTime := by
  intro s v h
  rw [exec_noopSlip_of_handed h, packNat_toNat_eq_ite]

end Sys2Proof.Machine
end

section
/-! PROOF. SETSTAT (R177): the privilege test, the flags as a sum of bits, and the answer of each of its three cases. -/

namespace Sys2Proof.Machine

/-- R44: an agent is not privileged when its bit of the mask is clear. -/
theorem State.not_privileged_iff {s : State} {agent : Nat} : (!s.privileged agent) = true ↔ s.slip.privMask.getLsbD agent = false :=
  iff_of_eq (Bool.not_eq_true' _)

/-- R177: the hold, the CHECK flag and the count of OFFERs, at their weights in word 6 byte 3. -/
theorem SetLink.statFlags_eq (l : SetLink) :
    l.held.toNat + 2 * (if l.checkCount = 1 then 1 else 0) + 16 * l.offerCount
      = (if l.held then 1 else 0) + (if l.checkCount = 1 then 2 else 0) + 16 * l.offerCount := by
  have hheld := mul_toNat_eq_ite 1 l.held
  rw [Nat.one_mul] at hheld
  have hcheck : 2 * (if l.checkCount = 1 then 1 else 0) = if l.checkCount = 1 then 2 else 0 := apply_ite (2 * ·) _ _ _
  rw [hheld, hcheck]

/-! ### The cases of SETSTAT -/

section
variable {s : State} {v : Service}

/-- A SETSTAT in service is answered by its clear flag and then by its agent's privilege; the counts are read before they are cleared (R177). -/
theorem exec_setstatSlip_of_handed (h : s.handed .setstat v) :
    exec .setstatSlip s = .next (
      let clear := byteAt (v.word 1) 0
      let l := s.set
      if 1 < clear then s.answered v 0 0 (result 0x13 1 0 0)
      else if clear = 1 ∧ !s.privileged v.agent then s.answered v 0 0 (result 0x16 0 0 0)
      else State.answered
        (if clear = 1 then s.withSet { l with badFrames := 0, outOfTurn := 0, spoiledTotal := 0 } else s) v
        (packHalves l.badFrames l.outOfTurn)
        (packBytes (l.spoiledTotal % 256) (l.spoiledTotal / 256) l.spoiled
          (l.held.toNat + 2 * (if l.checkCount = 1 then 1 else 0) + 16 * l.offerCount))
        (result 0x10 l.state.number l.rate l.workingMax)) :=
  congrArg Host.Outcome.next (State.serve_handed _ h)

/-- R177: a clear flag above 1 is BADARG with detail byte 1 = 1. -/
theorem exec_setstatSlip_badarg (h : s.handed .setstat v) (hc : 1 < byteAt (v.word 1) 0) :
    exec .setstatSlip s = .next (s.answered v 0 0 (result 0x13 1 0 0)) := by
  rw [exec_setstatSlip_of_handed h]
  exact congrArg Host.Outcome.next (if_pos hc)

/-- R177: a clear asked for by an agent that is not privileged is NOPRIV. -/
theorem exec_setstatSlip_nopriv (h : s.handed .setstat v) (hc : byteAt (v.word 1) 0 = 1) (hp : s.slip.privMask.getLsbD v.agent = false) :
    exec .setstatSlip s = .next (s.answered v 0 0 (result 0x16 0 0 0)) := by
  rw [exec_setstatSlip_of_handed h]
  exact congrArg Host.Outcome.next ((if_neg (Nat.not_lt_of_le (Nat.le_of_eq hc))).trans (if_pos ⟨hc, State.not_privileged_iff.mpr hp⟩))

/-- R177: the set link's fields as they stand, packed at their places in words 5 to 7; the three counts are 0 afterwards if the flag is set. -/
theorem exec_setstatSlip_done (h : s.handed .setstat v) (hc : ¬ 1 < byteAt (v.word 1) 0)
    (hp : ¬ (byteAt (v.word 1) 0 = 1 ∧ s.slip.privMask.getLsbD v.agent = false)) :
    exec .setstatSlip s = .next (State.answered
      (if byteAt (v.word 1) 0 = 1 then s.withSet { s.set with badFrames := 0, outOfTurn := 0, spoiledTotal := 0 } else s) v
      (packHalves s.set.badFrames s.set.outOfTurn)
      (packBytes (s.set.spoiledTotal % 256) (s.set.spoiledTotal / 256) s.set.spoiled
        ((if s.set.held then 1 else 0) + (if s.set.checkCount = 1 then 2 else 0) + 16 * s.set.offerCount))
      (result 0x10 s.set.state.number s.set.rate s.set.workingMax)) := by
  have hpriv : ¬ (byteAt (v.word 1) 0 = 1 ∧ (!s.privileged v.agent) = true) := mt (And.imp_right State.not_privileged_iff.mp) hp
  rw [exec_setstatSlip_of_handed h, ← s.set.statFlags_eq]
  exact congrArg Host.Outcome.next ((if_neg hc).trans (if_neg hpriv))

end

/-- Settles O60, by SETSTAT's three cases; the number of the link's state is its own table. -/
theorem setstatReadsTheSetLink : Obligations.SetstatReadsTheSetLink := by
  intro s v h clear l state flags
  split
  next hc => exact exec_setstatSlip_badarg h hc
  next hc =>
    split
    next hp => exact exec_setstatSlip_nopriv h hp.1 hp.2
    next hp => exact exec_setstatSlip_done h hc hp

end Sys2Proof.Machine
end
